-- ==== Sys2Proof/Word.lean ====
section
/-!
DEFINITION. The word types of the KJ2416: a byte of the management link, a 32-bit memory word, the four byte lanes of a
word, the 24-bit byte address of the host and memory buses (00_scope.md, Conventions: Addresses; R182).
-/
namespace Sys2Proof

/-- One byte of the management link, or one byte lane of a memory word (R182). -/
abbrev Byte := BitVec 8

/-- A 32-bit memory word; also the width of sequence numbers, epochs, timestamps, generations and counters. -/
abbrev Word := BitVec 32

/-- A set of byte lanes: bit n is lane n, the byte at the word address + n (R182, Table 11-11). -/
abbrev Lanes := BitVec 4

/-- A 24-bit byte address as it crosses a bus or a frame (00_scope.md, Conventions). -/
abbrev Addr := BitVec 24

/-- A set of mark sources, at the bit positions of Table 11-6. -/
abbrev SourceSet := BitVec 5

/-- A set of flags, at the bit positions of Table 11-6. -/
abbrev FlagSet := BitVec 25

end Sys2Proof
end

