-- ==== Sys2Proof/Syntax.lean ====
section
/-!
DEFINITION. The commands and happenings of the KJ2416: one constructor per row of spec/opcode_table.json, with the
operands the spec gives it. A management command carries its arguments as the codes its frame carries (Tables 11-3 and
11-9), so that the decoding of R184, with its refusals, belongs to the command's meaning.
-/
namespace Sys2Proof

/-- The kind of a host access (R48). -/
inductive AccessKind where
  | read
  | write
  deriving DecidableEq, Repr

/-- What the host bus carries for one word of an access: its byte lanes and, for a write, its data (R48, R185). For a
read the data is not looked at. -/
structure HostWord where
  lanes : Lanes
  data : Word
  deriving DecidableEq, Repr

/-- The field codes of a TABLE_WRITE frame, bytes 3 to 21 of Table 11-9. -/
structure TableFields where
  enabled : Byte
  base : Addr
  limit : Addr
  mode : Byte
  target : Byte
  action : Byte
  ring : Byte
  compareValue : Word
  preset : Word
  deriving DecidableEq, Repr

/-- One constructor per row of spec/opcode_table.json, in the table's order. -/
inductive Instr where
  /-- STATUS (R174). -/
  | status
  /-- GET(item) (R175). -/
  | get (item : Byte)
  /-- SET(item, value) (R176). -/
  | set (item : Byte) (value : Word)
  /-- TABLE_READ(index, table) (R47). -/
  | tableRead (index table : Byte)
  /-- TABLE_WRITE(index, presence mask, fields) (R41). -/
  | tableWrite (index : Byte) (mask : BitVec 16) (fields : TableFields)
  /-- INSTALL (R46). -/
  | install
  /-- ARM(action) (R87). -/
  | arm (action : Byte)
  /-- DISARM (R89). -/
  | disarm
  /-- MARK (R80). -/
  | mark
  /-- RELEASE(n) (R19). -/
  | release (n : Byte)
  /-- ROLLBACK(d) (R94). -/
  | rollback (depth : Byte)
  /-- DISCARD (R21). -/
  | discard
  /-- FORMAT(size code) (R129). -/
  | format (sizeCode : Byte)
  /-- PEEK(slot) (R121). -/
  | peek (slot : BitVec 16)
  /-- PEEK_READ (R123). -/
  | peekRead
  /-- MARKS_READ(first, count) (R178). -/
  | marksRead (first count : Byte)
  /-- CAPTURE_SET(slot, mode, cause, filter) (R152). -/
  | captureSet (slot mode cause filter : Byte)
  /-- CAPTURE_READ(slot) (R153). -/
  | captureRead (slot : Byte)
  /-- ACK_EVENTS(set) (R158). -/
  | ackEvents (set : Word)
  /-- RESTART (R181). -/
  | restart
  /-- FRAME_UNKNOWN: a malformed frame with this code and argument length is received in full (R169). -/
  | frameUnknown (code length : Byte)
  /-- FRAME_DISCARDED: SSEL rises before the frame's command is taken (R168). -/
  | frameDiscarded
  /-- HOST_ACCESS: an access of 1 to 8 words from this first word address (R49, R185). -/
  | hostAccess (kind : AccessKind) (address : Addr) (words : List HostWord)
  /-- HOST_TENANCY: the arbiter grants the waiting host word (R52). -/
  | hostTenancy
  /-- MARK_TAKE: the engine is granted a tenancy for the MARK job (R76, R77). -/
  | markTake
  /-- ARMING: the engine is granted the arming tenancy (R88). -/
  | arming
  /-- DISARMING: the engine is granted the disarming tenancy (R90). -/
  | disarming
  /-- RELEASE_JOB: the engine is granted a tenancy for the RELEASE job (R19). -/
  | releaseJob
  /-- DISCARD_TENANCY: the engine is granted the DISCARD tenancy (R21). -/
  | discardTenancy
  /-- PEEK_JOB: the engine is granted a tenancy for the PEEK job (R122). -/
  | peekJob
  /-- ROLLBACK_ANCHOR: the engine is granted the ANCHOR tenancy (R98). -/
  | rollbackAnchor
  /-- RESTORE_STEP: the engine is granted a restore step tenancy (R99). -/
  | restoreStep
  /-- SETTLE: the engine is granted the SETTLE tenancy (R101). -/
  | settle
  /-- FORMAT_ANCHOR_CLEAR: the engine is granted FORMAT's first tenancy (R130). -/
  | formatAnchorClear
  /-- FORMAT_SLOT_CLEAR: the engine is granted a tenancy that clears one slot (R131). -/
  | formatSlotClear
  /-- FORMAT_FINAL_ANCHOR: the engine is granted FORMAT's final tenancy (R132). -/
  | formatFinalAnchor
  /-- RECOVERY_ANCHOR_READ: the engine is granted a tenancy that reads one anchor copy (R135). -/
  | recoveryAnchorRead
  /-- SCAN_STEP: the engine is granted a tenancy that reads one slot of the scan (R137). -/
  | scanStep
  /-- MEMORY_ANSWER: the memory answers the access in progress, OK with this data word or ERROR (R119). -/
  | memoryAnswer (ok : Bool) (data : Word)
  /-- HOLD_EXPIRY: the word's hold time reaches the hold limit (R66). -/
  | holdExpiry
  /-- PERIODIC_EXPIRY: the PERIODIC mark timer expires (R84). -/
  | periodicExpiry
  /-- QUIET_EXPIRY: the QUIET mark timer expires (R85). -/
  | quietExpiry
  /-- MARK_PIN_CHANGE: the MARK pin changes level (R81). -/
  | markPinChange
  /-- FILTERED_CHANGE: the filter candidate's time reaches the line filter (R81). -/
  | filteredChange
  /-- PFAIL_ASSERT: the PFAIL pin changes to asserted (R141). -/
  | pfailAssert
  /-- PFAIL_RELEASE: the PFAIL pin changes to released (R142). -/
  | pfailRelease
  /-- COLD_RESET: power-on, or RESET low for at least 2 µs (R187). -/
  | coldReset
  /-- WARM_RESTART: no tenancy is in progress after RESTART (R134, R181). -/
  | warmRestart
  /-- ENTER_HALTED: no tenancy is in progress after PFAIL (R141). -/
  | enterHalted
  /-- TIMESTAMP_TICK: a millisecond of the time base passes (R73). -/
  | timestampTick
  /-- RESET_END: the reset ends with these levels at the SIZE straps, the PFAIL pin, the MARK pin and SSEL (R187, R171). -/
  | resetEnd (straps : BitVec 3) (pfailAsserted markHigh selected : Bool)
  /-- FRAME_BEGIN: SSEL falls while the link is IDLE (R167). -/
  | frameBegin
  /-- FRAME_END: SSEL rises after the frame's command has been taken, or after a selection the link ignored (R167). -/
  | frameEnd
  deriving DecidableEq, Repr

end Sys2Proof
end

