-- ==== Sys2Proof/Decode.lean ====
section
/-!
DEFINITION. The bits of the commands. The rows of spec/opcode_table.json give no bits, so `decodeTableWord` spells no row.
What the spec does encode is the management frame: its command codes, argument lengths and argument bytes (Tables 10-1,
11-3 and 11-9; multi-byte fields most significant byte first, R182). Those are here, in both directions.
-/
namespace Sys2Proof

/-- The two bytes of a 16-bit field, most significant first (R182). -/
def bytes16 (v : BitVec 16) : List Byte := [v.extractLsb' 8 8, v.extractLsb' 0 8]

/-- The three bytes of an address field, most significant first (R182, R184). -/
def bytes24 (v : Addr) : List Byte := [v.extractLsb' 16 8, v.extractLsb' 8 8, v.extractLsb' 0 8]

/-- The four bytes of a word field, most significant first (R182). -/
def bytes32 (v : Word) : List Byte :=
  [v.extractLsb' 24 8, v.extractLsb' 16 8, v.extractLsb' 8 8, v.extractLsb' 0 8]

/-- A 16-bit field from its two bytes. -/
def join16 (a b : Byte) : BitVec 16 := a ++ b

/-- An address field from its three bytes. -/
def join24 (a b c : Byte) : Addr := a ++ b ++ c

/-- A word field from its four bytes. -/
def join32 (a b c d : Byte) : Word := a ++ b ++ c ++ d

/-- The argument length each command code expects, Table 11-3; none for a code that is none of the twenty. -/
def argumentLength (code : Byte) : Option Nat :=
  match code.toNat with
  | 0x01 => some 0
  | 0x02 => some 1
  | 0x03 => some 5
  | 0x04 => some 2
  | 0x05 => some 22
  | 0x06 => some 0
  | 0x07 => some 1
  | 0x08 => some 0
  | 0x09 => some 0
  | 0x0A => some 1
  | 0x0B => some 1
  | 0x0C => some 0
  | 0x0D => some 1
  | 0x0E => some 2
  | 0x0F => some 0
  | 0x10 => some 2
  | 0x11 => some 4
  | 0x12 => some 1
  | 0x13 => some 4
  | 0x14 => some 0
  | _ => none

/-- A frame is malformed when its code is none of the twenty or its length is not the one the command expects; every
expected length is at most 32, so a length above 32 is malformed with the rest (R169). -/
def malformed (code length : Byte) : Bool := argumentLength code != some length.toNat

/-- The argument bytes of TABLE_WRITE, Table 11-9. -/
def tableWriteBytes (index : Byte) (mask : BitVec 16) (f : TableFields) : List Byte :=
  index :: bytes16 mask ++ f.enabled :: bytes24 f.base ++ bytes24 f.limit ++
    [f.mode, f.target, f.action, f.ring] ++ bytes32 f.compareValue ++ bytes32 f.preset

/-- The command code and argument bytes of a management command, Table 11-3; none for a happening that is no frame. -/
def commandFrame : Instr → Option (Byte × List Byte)
  | .status => some (0x01, [])
  | .get item => some (0x02, [item])
  | .set item value => some (0x03, item :: bytes32 value)
  | .tableRead index table => some (0x04, [index, table])
  | .tableWrite index mask fields => some (0x05, tableWriteBytes index mask fields)
  | .install => some (0x06, [])
  | .arm action => some (0x07, [action])
  | .disarm => some (0x08, [])
  | .mark => some (0x09, [])
  | .release n => some (0x0A, [n])
  | .rollback depth => some (0x0B, [depth])
  | .discard => some (0x0C, [])
  | .format sizeCode => some (0x0D, [sizeCode])
  | .peek slot => some (0x0E, bytes16 slot)
  | .peekRead => some (0x0F, [])
  | .marksRead first count => some (0x10, [first, count])
  | .captureSet slot mode cause filter => some (0x11, [slot, mode, cause, filter])
  | .captureRead slot => some (0x12, [slot])
  | .ackEvents set => some (0x13, bytes32 set)
  | .restart => some (0x14, [])
  | _ => none

/-- TABLE_WRITE from its argument bytes, Table 11-9. -/
def decodeTableWrite : List Byte → Option Instr
  | [i, m1, m0, en, b2, b1, b0, l2, l1, l0, md, tg, ac, rg, c3, c2, c1, c0, p3, p2, p1, p0] =>
    some (.tableWrite i (join16 m1 m0)
      ⟨en, join24 b2 b1 b0, join24 l2 l1 l0, md, tg, ac, rg, join32 c3 c2 c1 c0, join32 p3 p2 p1 p0⟩)
  | _ => none

/-- The command with no argument bytes. -/
def noArguments (i : Instr) : List Byte → Option Instr
  | [] => some i
  | _ => none

/-- The command with one argument byte. -/
def oneArgument (f : Byte → Instr) : List Byte → Option Instr
  | [a] => some (f a)
  | _ => none

/-- The command with two argument bytes. -/
def twoArguments (f : Byte → Byte → Instr) : List Byte → Option Instr
  | [a, b] => some (f a b)
  | _ => none

/-- The command with four argument bytes. -/
def fourArguments (f : Byte → Byte → Byte → Byte → Instr) : List Byte → Option Instr
  | [a, b, c, d] => some (f a b c d)
  | _ => none

/-- SET from its argument bytes: the item, then the value of 4 bytes (Table 11-3). -/
def decodeSet : List Byte → Option Instr
  | [item, a, b, c, d] => some (.set item (join32 a b c d))
  | _ => none

/-- The well-formed command a code and its argument bytes spell, Table 11-3. -/
def decodeCommand (code : Byte) (args : List Byte) : Option Instr :=
  match code.toNat with
  | 0x01 => noArguments .status args
  | 0x02 => oneArgument .get args
  | 0x03 => decodeSet args
  | 0x04 => twoArguments .tableRead args
  | 0x05 => decodeTableWrite args
  | 0x06 => noArguments .install args
  | 0x07 => oneArgument .arm args
  | 0x08 => noArguments .disarm args
  | 0x09 => noArguments .mark args
  | 0x0A => oneArgument .release args
  | 0x0B => oneArgument .rollback args
  | 0x0C => noArguments .discard args
  | 0x0D => oneArgument .format args
  | 0x0E => twoArguments (fun a b => .peek (join16 a b)) args
  | 0x0F => noArguments .peekRead args
  | 0x10 => twoArguments .marksRead args
  | 0x11 => fourArguments .captureSet args
  | 0x12 => oneArgument .captureRead args
  | 0x13 => fourArguments (fun a b c d => .ackEvents (join32 a b c d)) args
  | 0x14 => noArguments .restart args
  | _ => none

/-- The happening a received frame is: its command when it is well formed, else FRAME_UNKNOWN (R169). The length byte
counts at most 255 argument bytes (Table 10-1), so a longer list is no frame. -/
def decodeFrame (code : Byte) (args : List Byte) : Option Instr :=
  if 255 < args.length then none
  else some ((decodeCommand code args).getD (.frameUnknown code (BitVec.ofNat 8 args.length)))

/-- No row of the table gives bits, so no word spells a command. -/
def decodeTableWord (_nbits _w : Nat) : Option Instr := none

end Sys2Proof
end

