-- ==== Sys2Proof/Config.lean ====
section
/-!
DEFINITION. What is fixed for every KJ2416, and the one value the spec leaves open. The spec fixes every size below; the
only free value is what a capture record sends for a word address that does not fit its 3-byte field.
-/
namespace Sys2Proof.Config

/-- Entries of each region table (R28). -/
abbrev regionCount : Nat := 12

/-- Capture slots (R143). -/
abbrev captureCount : Nat := 4

/-- Capacity of the mark list (R12). -/
abbrev markCapacity : Nat := 16

/-- Capacity of the touched set (R60). -/
abbrev touchedCapacity : Nat := 64

/-- FREE VALUE (DESIGN CHOICE, log entry 6). A burst word at address 2^24 or beyond is answered OUT_OF_SPACE (R49) and offered to the
capture slots with its own address (R147), but the record's address field is 3 bytes (Table 11-11) and the spec states
no value for such an address. Nothing constrains this one. -/
opaque addressBeyondField : Nat → Addr

end Sys2Proof.Config
end

