-- ==== Sys2Proof/Machine/State.lean ====
section
/-!
DEFINITION. Everything the spec gives the KJ2416 to hold, block by block (00_scope.md, Table 1), as plain data, with the
value of each piece after a cold reset. The attached memory device is not part of the chip: it is reached through the
memory port, whose access in progress is here, and it answers by MEMORY_ANSWER. Beside the spec's own state stand four
fields of the model's: `pending`, the queue of commands and happenings still to come; `HostPort.answers`, the answers
given on the host bus; `Link.response`, the response formed for the frame in progress (R170); and `MarkSources.micros`, the
µs passed in the running millisecond.
-/
namespace Sys2Proof.Machine

/-! ## Named values (Tables 2-1, 3-3, 7-1, 8-1, 9-1, 9-2, 10-2, 10-5, 11-5) -/

/-- The journal engine's principal state. LAPSED is a condition within ARMED, held in `Journal.lapsed`. -/
inductive EngineState where
  | recovering
  | unformatted
  | formatting
  | disarmed
  | armed
  | rolling
  | broken
  | halted
  deriving DecidableEq, Repr

/-- Region and default modes (R28). -/
inductive Mode where
  | pass
  | journal
  | locked
  deriving DecidableEq, Repr

/-- What a region counter counts (R28). -/
inductive CountTarget where
  | writes
  | reads
  | undo
  deriving DecidableEq, Repr

/-- What a compare match does (R38). -/
inductive CompareAction where
  | none
  | event
  | mark
  deriving DecidableEq, Repr

/-- The full policies (R23). -/
inductive FullPolicy where
  | stall
  | refuse
  | release
  | lose
  deriving DecidableEq, Repr

/-- The mark timer's modes (R83). -/
inductive TimerMode where
  | off
  | periodic
  | quiet
  deriving DecidableEq, Repr

/-- The line edge selection (R82). -/
inductive LineEdge where
  | none
  | rise
  | fall
  | both
  deriving DecidableEq, Repr

/-- The line filter's values: 0, 2 µs, 50 µs and 1 ms (R81). -/
inductive LineFilter where
  | zero
  | us2
  | us50
  | ms1
  deriving DecidableEq, Repr

/-- What recovery does with an OPEN journal (R124). -/
inductive RestartAction where
  | keep
  | revert
  deriving DecidableEq, Repr

/-- The sources of marks (R5, R74). -/
inductive Source where
  | command
  | arm
  | line
  | timer
  | compare
  deriving DecidableEq, Repr

/-- The 16 event flags and 9 error flags, in the order of Table 11-6. -/
inductive Flag where
  | markTaken
  | markMissed
  | epochReleased
  | journalHigh
  | journalDropped
  | rollbackDone
  | formatDone
  | recoveryDone
  | peekDone
  | compareMatch
  | capture0
  | capture1
  | capture2
  | capture3
  | lineChange
  | releaseDone
  | lockedWrite
  | outOfSpace
  | journalFull
  | stallExpired
  | brokenWrite
  | memoryFault
  | journalDamaged
  | anchorFault
  | powerFail
  deriving DecidableEq, Repr

/-- The fault causes of the host port (Table 3-3). -/
inductive FaultCause where
  | outOfSpace
  | lockedWrite
  | journalFull
  | stallExpired
  | memoryFault
  | brokenWrite
  | powerFail
  | skipped
  | restart
  deriving DecidableEq, Repr

/-- The causes of capture (Table 8-1). -/
inductive CaptureCause where
  | lineEdge
  | compare
  | lockedWrite
  | fault
  | journalHigh
  | markTaken
  | rollbackEnd
  | powerFail
  deriving DecidableEq, Repr

/-- Capture slot modes (Table 8-1). -/
inductive CaptureMode where
  | off
  | first
  | every
  deriving DecidableEq, Repr

/-- Capture slot phases (Table 8-1). -/
inductive CapturePhase where
  | off
  | active
  | held
  deriving DecidableEq, Repr

/-- The management link's status codes (Table 10-2). -/
inductive Status where
  | ok
  | accepted
  | busy
  | wrongState
  | badArg
  | unknown
  | notFormatted
  | notReady
  | halted
  deriving DecidableEq, Repr

/-- The two anchor copies (R2). -/
inductive Copy where
  | a
  | b
  deriving DecidableEq, Repr

/-- The two clients of the memory port (R111). -/
inductive Side where
  | host
  | engine
  deriving DecidableEq, Repr

/-! ## Records -/

/-- The kinds of a journal entry (R5). -/
inductive EntryKind where
  | undo
  | mark
  | void
  deriving DecidableEq, Repr

/-- A journal entry but for its check word (Table 11-1). -/
structure Entry where
  kind : EntryKind
  sequence : Word
  link : Word
  third : Word
  fourth : Word
  epoch : Word
  stamp : Word
  deriving DecidableEq, Repr

/-- The anchor's named states (Table 7-1). `opened` is OPEN. -/
inductive AnchorState where
  | fresh
  | opened
  | idle
  | rolling
  | broken
  deriving DecidableEq, Repr

/-- An anchor copy but for its check word (Table 7-1). -/
structure AnchorCopy where
  generation : Word
  state : AnchorState
  sizeCode : Fin 8
  memoryCode : Fin 5
  action : RestartAction
  headSlot : Nat
  headSequence : Word
  targetSequence : Word
  epoch : Word
  deriving DecidableEq, Repr

/-! ## The journal engine -/

/-- An element of the mark list (R12). -/
structure MarkElement where
  slot : Nat
  sequence : Word
  epoch : Word
  sources : SourceSet
  stamp : Word
  deriving DecidableEq, Repr

/-- The in-chip journal record and the touched set (section 1.3, R60). -/
structure Journal where
  head : Nat
  tail : Nat
  fill : Nat
  nextSequence : Word
  newestSequence : Word
  epoch : Word
  marks : List MarkElement
  touched : List Nat
  lapsed : Bool
  deriving DecidableEq, Repr

/-- A job of the engine job queue (R116), with the argument its command gave. -/
inductive Job where
  | mark
  | release (n : Nat)
  | peek (slot : Nat)
  deriving DecidableEq, Repr

/-- FORMAT's next tenancy: both anchor copies (R130), one slot (R131), the final anchor (R132). -/
inductive FormatPhase where
  | anchors
  | slot (n : Nat)
  | final
  deriving DecidableEq, Repr

/-- The exclusive operation running (R117), with what its tenancies still need. -/
inductive Exclusive where
  | arm (action : RestartAction)
  | disarm
  | discard
  | rollback
  | format (phase : FormatPhase)
  deriving DecidableEq, Repr

/-- Where a rollback returns to (R93). -/
inductive RollbackOrigin where
  | armed
  | disarmed
  | recovery
  deriving DecidableEq, Repr

/-- The phases of a rollback (R93). -/
inductive RollbackPhase where
  | freeze
  | anchor
  | restore
  | settle
  deriving DecidableEq, Repr

/-- The rollback record (R93). Its steps remaining are `Engine.steps`, the field STATUS shows. -/
structure RollbackRecord where
  origin : RollbackOrigin
  targetSlot : Nat
  targetSequence : Word
  targetEpoch : Word
  phase : RollbackPhase
  position : Nat
  expected : Word
  deriving DecidableEq, Repr

/-- What reading one anchor copy gave (R125, R135). -/
inductive CopyReading where
  | unreadable
  | invalid
  | valid (copy : AnchorCopy)
  deriving DecidableEq, Repr

/-- Recovery's next tenancy: copy A, copy B, or one slot of the scan under the chosen anchor (R135, R137). -/
inductive RecoveryStep where
  | copyA
  | copyB (a : CopyReading)
  | scan (anchor : AnchorCopy) (slot : Nat)
  deriving DecidableEq, Repr

/-- The validity indication of a PEEK (R122). -/
inductive Validity where
  | valid
  | invalid
  | readError
  deriving DecidableEq, Repr

/-- The result of a PEEK (R122). -/
structure PeekResult where
  slot : Nat
  validity : Validity
  retained : Bool
  words : List Word
  deriving DecidableEq, Repr

/-- The peek buffer (R122). -/
inductive PeekBuffer where
  | empty
  | pending
  | ready (result : PeekResult)
  deriving DecidableEq, Repr

/-- The journal engine. `geometry` is the journal size code in force (R4), `anchor` the anchor record (R126), `action` the
restart action of the arming (R88), `markPending` the pending mark set (R75), `steps` the STATUS field for rollback steps
or format slots remaining (R93, R129), `recovery` the progress of recovery (R134). -/
structure Engine where
  state : EngineState
  journal : Journal
  geometry : Option (Fin 8)
  anchor : Option (Copy × Word)
  action : RestartAction
  jobs : List Job
  markPending : SourceSet
  exclusive : Option Exclusive
  rollback : Option RollbackRecord
  steps : Nat
  recovery : Option RecoveryStep
  peek : PeekBuffer
  deriving DecidableEq, Repr

/-! ## The host port -/

/-- The phase of the current word (R48). -/
inductive WordPhase where
  | entry
  | waiting
  | granted
  | held
  deriving DecidableEq, Repr

/-- The answer of the region table at a grant (R31). -/
structure Resolution where
  mode : Mode
  region : Option (Fin Config.regionCount)
  deriving DecidableEq, Repr

/-- The access in progress and the state of its current word (R48). `hold` is the hold timer: none when stopped, else the
time run in µs. -/
structure HostAccess where
  kind : AccessKind
  address : Addr
  words : List HostWord
  position : Nat
  skipping : Bool
  phase : WordPhase
  hold : Option Nat
  grant : Option Resolution
  deriving DecidableEq, Repr

/-- What is decided about one word: DONE, with the word read for a read, or FAULT with its cause (R68). -/
inductive WordResult where
  | done (data : Option Word)
  | fault (cause : FaultCause)
  deriving DecidableEq, Repr

/-- The answer given for one word, with the data the bus carries: none for a write, the word read for a read answered DONE,
zero for a read answered FAULT. The bus does not carry the cause, which is kept here beside it (R68). -/
inductive HostAnswer where
  | done (data : Option Word)
  | fault (cause : FaultCause) (data : Option Word)
  deriving DecidableEq, Repr

/-- One request of the host bus: an access as its master presents it (Table 12-1). -/
structure HostRequest where
  kind : AccessKind
  address : Addr
  words : List HostWord
  deriving DecidableEq, Repr

/-- The host port: no access in progress is IDLE (R48). `answers` is the model's record of what the host bus has carried,
in order. `presented` holds the requests that stay presented on the bus while an access is in progress, oldest first
(R185). -/
structure HostPort where
  current : Option HostAccess
  answers : List HostAnswer
  presented : List HostRequest
  deriving DecidableEq, Repr

/-! ## The memory port -/

/-- A run of accesses at rising word addresses (R112), with the access whose answer is awaited: a read, with how many
follow it and the words read before it, or a write of a word, with the words that follow it. -/
inductive Transfer where
  | read (address : Nat) (more : Nat) (got : List Word)
  | write (address : Nat) (lanes : Lanes) (word : Word) (rest : List Word)
  deriving DecidableEq, Repr

/-- What the tenancy in progress is doing: one constructor for each step whose accesses Tables of R113 and R114 list, with
what the step fixed when it was issued. -/
inductive Work where
  /-- Host: a forwarded read (R54). -/
  | hostRead
  /-- Host: a forwarded write, the last access of any write's tenancy (R55, R57, R59 step 6). -/
  | hostWrite
  /-- Host: the FRESH anchor write of a DISARMED first write (R58). -/
  | hostFirstWrite
  /-- Host: a release anchor write under the RELEASE policy (R26). -/
  | hostRelease
  /-- Host: the FRESH anchor write of the LOSE policy (R27). -/
  | hostLose
  /-- Host: the old-value read (R59 step 3). -/
  | hostOldValue
  /-- Host: the UNDO slot write (R59 step 4). -/
  | hostUndo
  /-- A mark's release anchor write, its sources and limit read at the grant (R77 step 1). -/
  | markRoom (sources : SourceSet) (limit : Nat)
  /-- A mark's MARK slot write, stamped as written (R77 step 2). -/
  | markAppend (sources : SourceSet) (limit : Nat) (stamp : Word)
  /-- The OPEN anchor write that ends LAPSED (R77 step 3, R79). -/
  | markLapseEnd (sources : SourceSet) (limit : Nat)
  /-- A mark's limit anchor write, releasing this many epochs (R77 step 4). -/
  | markLimit (sources : SourceSet) (count : Nat)
  /-- An arming's IDLE release anchor write (R88 step 1). -/
  | armRoom (action : RestartAction) (limit : Nat)
  /-- An arming's MARK slot write (R88 step 2). -/
  | armAppend (action : RestartAction) (limit : Nat) (stamp : Word)
  /-- An arming's OPEN anchor write, releasing this many epochs (R88 step 4). -/
  | armAnchor (action : RestartAction) (count : Nat)
  /-- A disarming's anchor write: FRESH when `fresh`, else IDLE (R90). -/
  | disarm (fresh : Bool)
  /-- A RELEASE job's anchor write, releasing this many epochs (R19). -/
  | release (count : Nat)
  /-- DISCARD's FRESH anchor write (R21). -/
  | discard
  /-- The ROLLING anchor write (R98). -/
  | rollbackAnchor
  /-- A restore step's slot read (R99). -/
  | restoreRead
  /-- A restore step's restore write, with the entry's link (R100). -/
  | restoreWrite (link : Word)
  /-- The VOID slot write (R101). -/
  | settleVoid
  /-- The settle anchor write (R102). -/
  | settleAnchor
  /-- The BROKEN anchor write of a failed rollback (R104). -/
  | brokenAnchor
  /-- FORMAT's clear of the first copy, the second still to come (R130). -/
  | clearFirst (second : Copy)
  /-- FORMAT's clear of the second copy (R130). -/
  | clearSecond
  /-- FORMAT's clear of one slot (R131). -/
  | clearSlot (slot : Nat)
  /-- FORMAT's final anchor write (R132). -/
  | formatAnchor
  /-- Recovery's read of copy A (R135). -/
  | readCopyA
  /-- Recovery's read of copy B, with what copy A gave (R135). -/
  | readCopyB (a : CopyReading)
  /-- Recovery's read of one slot of the scan (R137). -/
  | scan (anchor : AnchorCopy) (slot : Nat)
  /-- A PEEK job's slot read, with the position indication recorded at the grant (R122). -/
  | peek (slot : Nat) (retained : Bool)
  deriving DecidableEq, Repr

/-- A tenancy in progress: its work and the accesses of the present step (R111, R112). -/
structure Tenancy where
  work : Work
  transfer : Transfer
  deriving DecidableEq, Repr

/-- The memory port (R111). -/
structure MemoryPort where
  tenancy : Option Tenancy
  lastSide : Side
  deriving DecidableEq, Repr

/-! ## The region table -/

/-- The configuration fields an active and a staged entry share (Table 2-1). -/
structure RegionConfig where
  enabled : Bool
  base : Addr
  limit : Addr
  mode : Mode
  target : CountTarget
  compareValue : Word
  compareAction : CompareAction
  ring : Bool
  deriving DecidableEq, Repr

/-- An active region entry (Table 2-1). -/
structure ActiveEntry where
  config : RegionConfig
  counter : Word
  hit : Bool
  deriving DecidableEq, Repr

/-- A staged region entry (Table 2-1). -/
structure StagedEntry where
  config : RegionConfig
  preset : Option Word
  installs : Bool
  deriving DecidableEq, Repr

/-- The region table (R28). `defaultInstalls` is the staged default mode's pending flag. -/
structure RegionTable where
  active : Vector ActiveEntry Config.regionCount
  staged : Vector StagedEntry Config.regionCount
  activeDefault : Mode
  stagedDefault : Mode
  defaultInstalls : Bool
  deriving DecidableEq, Repr

/-! ## The mark sources -/

/-- The time base, the MARK line filter and the mark timer (R73, R81, R83). `candidate` is the time in µs for which the pin
has held the level opposite to `level`; `timer` is none when stopped, else the remaining time in ms; `micros` is the model's
count of the µs passed in the time base's running millisecond (log entry 2). -/
structure MarkSources where
  stamp : Word
  level : Bool
  candidate : Option Nat
  timer : Option Nat
  micros : Nat
  deriving DecidableEq, Repr

/-! ## The capture unit -/

/-- The host word a capture record names: its address, kind and byte lanes (R147). -/
structure WordDetail where
  address : Nat
  kind : AccessKind
  lanes : Lanes
  deriving DecidableEq, Repr

/-- A captured record: fixed fields (R146) and optional fields (R147). -/
structure CaptureRecord where
  cause : CaptureCause
  stamp : Word
  state : EngineState
  lapsed : Bool
  fill : Nat
  nextSequence : Word
  epoch : Word
  word : Option WordDetail
  writeData : Option Word
  region : Option (Fin Config.regionCount)
  faultCause : Option FaultCause
  sources : Option SourceSet
  deriving DecidableEq, Repr

/-- A capture slot (Table 8-1). The filter is none for ANY. -/
structure CaptureSlot where
  mode : CaptureMode
  phase : CapturePhase
  cause : CaptureCause
  filter : Option (Fin Config.regionCount)
  toggle : Bool
  count : Nat
  record : Option CaptureRecord
  deriving DecidableEq, Repr

/-! ## The event unit, the link, configuration and the whole part -/

/-- The event unit: the flags and the enable set (R156). -/
structure EventUnit where
  flags : FlagSet
  enables : FlagSet
  deriving DecidableEq, Repr

/-- The link's frame phase (R167), with the counts it keeps. -/
inductive FramePhase where
  | idle
  | code
  | length
  | arguments (left : Nat)
  | turnaround
  | response (left : Nat)
  | drain
  deriving DecidableEq, Repr

/-- The response formed when a command is taken (R170). -/
structure Response where
  status : Status
  data : List Byte
  deriving DecidableEq, Repr

/-- The management link. `ignoring` is set while the link ignores a selection already under way at the end of a reset
(R171). -/
structure Link where
  phase : FramePhase
  ignoring : Bool
  response : Option Response
  deriving DecidableEq, Repr

/-- The configuration items but for the default mode and the event enables, which their blocks hold (Table 10-5). The hold
limit is in µs, the period in ms. -/
structure Settings where
  fullPolicy : FullPolicy
  watermark : Nat
  retainedLimit : Nat
  holdLimit : Nat
  timerMode : TimerMode
  timerPeriod : Nat
  lineEdge : LineEdge
  lineFilter : LineFilter
  deriving DecidableEq, Repr

/-- The power-fail monitor, the RESET input, the sampled strap code and the restart pending (R141, R187, R1, R181).
`halted` is the HALTED condition; the engine state HALTED follows it. -/
structure Control where
  pfail : Bool
  halted : Bool
  resetHeld : Bool
  straps : BitVec 3
  restartPending : Bool
  deriving DecidableEq, Repr

/-- The whole part, with the queue of commands and happenings still to be taken, first in first out. -/
structure State where
  engine : Engine
  settings : Settings
  host : HostPort
  port : MemoryPort
  regions : RegionTable
  sources : MarkSources
  captures : Vector CaptureSlot Config.captureCount
  events : EventUnit
  link : Link
  control : Control
  pending : List Instr
  deriving DecidableEq, Repr

/-- No command or happening of the part stops it: every rule gives an effect, so there is no fault to raise. -/
inductive Fault where
  deriving DecidableEq, Repr

/-- The reasons a command has no meaning in this model. -/
inductive Refusal where
  /-- Raised by the dispatcher for a command without a meaning; safe, since nothing is then claimed of it. -/
  | notModelled (mnemonic : String)
  deriving DecidableEq, Repr

/-! ## Cold reset values -/

/-- The in-chip journal's cold value (R134). -/
def coldJournal : Journal where
  head := 0
  tail := 0
  fill := 0
  nextSequence := 0
  newestSequence := 0
  epoch := 0
  marks := []
  touched := []
  lapsed := false

/-- The engine's cold value: RECOVERING, about to read copy A (R4, R93, R122, R126, R134). -/
def coldEngine : Engine where
  state := .recovering
  journal := coldJournal
  geometry := none
  anchor := none
  action := .keep
  jobs := []
  markPending := 0
  exclusive := none
  rollback := none
  steps := 0
  recovery := some .copyA
  peek := .empty

/-- The configuration items' cold values (Table 10-5). -/
def coldSettings : Settings where
  fullPolicy := .stall
  watermark := 6
  retainedLimit := 4
  holdLimit := 2000
  timerMode := .off
  timerPeriod := 1000
  lineEdge := .none
  lineFilter := .zero

/-- A region entry's configuration after a cold reset (R29). -/
def coldRegion : RegionConfig where
  enabled := false
  base := 0
  limit := 0
  mode := .pass
  target := .writes
  compareValue := 0
  compareAction := .none
  ring := false

/-- The region table's cold value (R29). -/
def coldRegions : RegionTable where
  active := Vector.replicate _ ⟨coldRegion, 0, false⟩
  staged := Vector.replicate _ ⟨coldRegion, none, false⟩
  activeDefault := .journal
  stagedDefault := .journal
  defaultInstalls := false

/-- A capture slot's cold value (R143). -/
def coldCapture : CaptureSlot where
  mode := .off
  phase := .off
  cause := .lineEdge
  filter := none
  toggle := false
  count := 0
  record := none

/-- The part while the reset is held: every block at its cold reset value (R187). The levels sampled when the reset ends
(straps, PFAIL, MARK) stand at 0, released and low until then (DESIGN CHOICE, log entry 1). -/
def State.cold : State where
  engine := coldEngine
  settings := coldSettings
  host := ⟨none, [], []⟩
  port := ⟨none, .engine⟩
  regions := coldRegions
  sources := ⟨0, false, none, none, 0⟩
  captures := Vector.replicate _ coldCapture
  events := ⟨0, 0⟩
  link := ⟨.idle, false, none⟩
  control := ⟨false, false, true, 0, false⟩
  pending := []

/-- The machine right after reset: the reset has ended with strap code 0, PFAIL released, MARK low and SSEL high (log
entry 1), and the engine is RECOVERING (R187). -/
def State.reset : State := { State.cold with control := ⟨false, false, false, 0, false⟩ }

end Sys2Proof.Machine
end

