-- ==== Sys2Proof/Machine/Updates.lean ====
section
/-!
DEFINITION. The named updates of State, one per block, and of the parts of a block that several operations change. Each
replaces what it names and nothing else; Laws/State.lean says so field by field.
-/
namespace Sys2Proof.Machine

/-- Replace the engine. -/
def State.withEngine (s : State) (e : Engine) : State := { s with engine := e }

/-- Replace the in-chip journal. -/
def State.withJournal (s : State) (j : Journal) : State := s.withEngine { s.engine with journal := j }

/-- Replace the engine state alone. -/
def State.withEngineState (s : State) (x : EngineState) : State := s.withEngine { s.engine with state := x }

/-- Replace the exclusive operation running. -/
def State.withExclusive (s : State) (x : Option Exclusive) : State := s.withEngine { s.engine with exclusive := x }

/-- Replace the rollback record. -/
def State.withRollback (s : State) (r : Option RollbackRecord) : State := s.withEngine { s.engine with rollback := r }

/-- Replace recovery's progress. -/
def State.withRecovery (s : State) (r : Option RecoveryStep) : State := s.withEngine { s.engine with recovery := r }

/-- Replace the STATUS field for steps remaining. -/
def State.withSteps (s : State) (n : Nat) : State := s.withEngine { s.engine with steps := n }

/-- Replace the job queue. -/
def State.withJobs (s : State) (q : List Job) : State := s.withEngine { s.engine with jobs := q }

/-- Replace the pending mark set. -/
def State.withMarkPending (s : State) (p : SourceSet) : State := s.withEngine { s.engine with markPending := p }

/-- Replace the anchor record. -/
def State.withAnchor (s : State) (a : Option (Copy × Word)) : State := s.withEngine { s.engine with anchor := a }

/-- Replace the geometry in force. -/
def State.withGeometry (s : State) (k : Option (Fin 8)) : State := s.withEngine { s.engine with geometry := k }

/-- Replace the peek buffer. -/
def State.withPeek (s : State) (p : PeekBuffer) : State := s.withEngine { s.engine with peek := p }

/-- Replace the configuration items. -/
def State.withSettings (s : State) (c : Settings) : State := { s with settings := c }

/-- Replace the host port. -/
def State.withHost (s : State) (h : HostPort) : State := { s with host := h }

/-- Replace the access in progress. -/
def State.withCurrent (s : State) (c : Option HostAccess) : State := s.withHost { s.host with current := c }

/-- Replace the memory port. -/
def State.withPort (s : State) (p : MemoryPort) : State := { s with port := p }

/-- Replace the tenancy in progress. -/
def State.withTenancy (s : State) (t : Option Tenancy) : State := s.withPort { s.port with tenancy := t }

/-- Replace the region table. -/
def State.withRegions (s : State) (r : RegionTable) : State := { s with regions := r }

/-- Replace the mark sources. -/
def State.withSources (s : State) (m : MarkSources) : State := { s with sources := m }

/-- Replace the mark timer's run state. -/
def State.withTimer (s : State) (t : Option Nat) : State := s.withSources { s.sources with timer := t }

/-- Replace the capture slots. -/
def State.withCaptures (s : State) (c : Vector CaptureSlot Config.captureCount) : State := { s with captures := c }

/-- Replace the event unit. -/
def State.withEvents (s : State) (e : EventUnit) : State := { s with events := e }

/-- Replace the link. -/
def State.withLink (s : State) (l : Link) : State := { s with link := l }

/-- Replace the control lines and conditions. -/
def State.withControl (s : State) (c : Control) : State := { s with control := c }

/-- Replace the queue of commands to come. -/
def State.withPending (s : State) (q : List Instr) : State := { s with pending := q }

end Sys2Proof.Machine
end

