-- ==== Sys2Proof/Machine/Flags.lean ====
section
/-!
DEFINITION. The event unit: setting flags, acknowledging them, the enable set, the pending view and ATTN (chapter 9).
-/
namespace Sys2Proof.Machine

/-- A flag's bit position, Table 11-6. -/
def Flag.bit : Flag → Nat
  | .markTaken => 0
  | .markMissed => 1
  | .epochReleased => 2
  | .journalHigh => 3
  | .journalDropped => 4
  | .rollbackDone => 5
  | .formatDone => 6
  | .recoveryDone => 7
  | .peekDone => 8
  | .compareMatch => 9
  | .capture0 => 10
  | .capture1 => 11
  | .capture2 => 12
  | .capture3 => 13
  | .lineChange => 14
  | .releaseDone => 15
  | .lockedWrite => 16
  | .outOfSpace => 17
  | .journalFull => 18
  | .stallExpired => 19
  | .brokenWrite => 20
  | .memoryFault => 21
  | .journalDamaged => 22
  | .anchorFault => 23
  | .powerFail => 24

/-- The set that holds one flag. -/
def Flag.only (f : Flag) : FlagSet := BitVec.twoPow 25 f.bit

/-- Whether a set holds a flag. -/
def hasFlag (x : FlagSet) (f : Flag) : Bool := x.getLsbD f.bit

/-- A flag is set by its owner; setting it again changes nothing (R157). -/
def setFlag (f : Flag) (s : State) : State :=
  s.withEvents { s.events with flags := s.events.flags ||| f.only }

/-- Every flag of a set is cleared in one step (R158). -/
def clearFlags (x : FlagSet) (s : State) : State :=
  s.withEvents { s.events with flags := s.events.flags &&& ~~~x }

/-- The flags both set and enabled (R162). -/
def EventUnit.pendingView (e : EventUnit) : FlagSet := e.flags &&& e.enables

/-- ATTN is driven low while the pending view holds a flag (R163). -/
def State.attnLow (s : State) : Bool := s.events.pendingView != 0

/-- The flag a fault cause sets, Table 3-3; SKIPPED and RESTART set none (R68). -/
def FaultCause.flag : FaultCause → Option Flag
  | .outOfSpace => some .outOfSpace
  | .lockedWrite => some .lockedWrite
  | .journalFull => some .journalFull
  | .stallExpired => some .stallExpired
  | .memoryFault => some .memoryFault
  | .brokenWrite => some .brokenWrite
  | .powerFail => some .powerFail
  | .skipped => none
  | .restart => none

/-- The CAPTURE flag of a slot (R151). -/
def captureFlag (i : Fin Config.captureCount) : Flag :=
  match i with
  | 0 => .capture0
  | 1 => .capture1
  | 2 => .capture2
  | 3 => .capture3

end Sys2Proof.Machine
end

