-- ==== Sys2Proof/Machine/Records.lean ====
section
/-!
DEFINITION. The records the part writes to memory and reads back: their words, their check word and their validity
(R5 to R7, R124, R125, R182, R183; Tables 11-1 and 11-2), and the serial comparison of sequence numbers.
-/
namespace Sys2Proof.Machine

/-- Serial comparison: a is later than b when a - b, modulo 2^32, lies in 1..2^31 - 1 (00_scope.md, Conventions). -/
def later (a b : Word) : Bool :=
  decide (1 ≤ (a - b).toNat) && decide ((a - b).toNat ≤ 2 ^ 31 - 1)

/-! ## The check word -/

/-- One shift of the check register, the polynomial in bit-reversed form (R183). -/
def crcShift (c : Word) : Word := if c.getLsbD 0 then (c >>> 1) ^^^ 0xEDB88320 else c >>> 1

/-- One byte fed into the check register, least significant bit first (R183). -/
def crcByte (c : Word) (b : Byte) : Word :=
  crcShift (crcShift (crcShift (crcShift (crcShift (crcShift (crcShift (crcShift (c ^^^ b.setWidth 32))))))))

/-- The check over a run of bytes: preset to all ones, the result inverted (R183). -/
def crcBytes (bs : List Byte) : Word := ~~~ (bs.foldl crcByte 0xFFFFFFFF)

/-- The byte lanes of a word, lane 0 first (R182). -/
def laneBytes (w : Word) : List Byte :=
  [w.extractLsb' 0 8, w.extractLsb' 8 8, w.extractLsb' 16 8, w.extractLsb' 24 8]

/-- The check word over a run of words, taken in order and lane by lane (R183). -/
def crcWords (ws : List Word) : Word := crcBytes (ws.flatMap laneBytes)

/-- A record's eight words: its seven and the check over them, written last (R6, R124). -/
def withCheck (ws : List Word) : List Word := ws ++ [crcWords ws]

/-! ## Journal entries -/

/-- The kind words of Table 11-1. -/
def EntryKind.word : EntryKind → Word
  | .undo => 0x0000A501
  | .mark => 0x0000A502
  | .void => 0x0000A503

/-- The kind a kind word names (R7). -/
def entryKind (w : Word) : Option EntryKind :=
  if w = EntryKind.word .undo then some .undo
  else if w = EntryKind.word .mark then some .mark
  else if w = EntryKind.word .void then some .void
  else none

/-- The seven words of an entry before its check, Table 11-1. -/
def Entry.body (e : Entry) : List Word := [e.kind.word, e.sequence, e.link, e.third, e.fourth, e.epoch, e.stamp]

/-- The eight words of an entry, Table 11-1. -/
def Entry.words (e : Entry) : List Word := withCheck e.body

/-- The entry a slot's eight words hold, when its check and its kind are valid (R7). -/
def parseEntry : List Word → Option Entry
  | [k, sequence, link, third, fourth, epoch, stamp, check] =>
    if crcWords [k, sequence, link, third, fourth, epoch, stamp] = check then
      (entryKind k).map fun kind => ⟨kind, sequence, link, third, fourth, epoch, stamp⟩
    else none
  | _ => none

/-! ## Anchor copies -/

/-- The slots S of a journal size code (R3). -/
def slotCount (k : Fin 8) : Nat := 256 * 2 ^ k.val

/-- The memory size in bytes of an effective size code (R1, Table 1-1). -/
def memoryBytes (c : Fin 5) : Nat := 1048576 * 2 ^ c.val

/-- A journal size code is allowed only when 32·S ≤ memory size / 4 (R3). -/
def sizeAllowed (c : Fin 5) (k : Fin 8) : Bool := decide (32 * slotCount k ≤ memoryBytes c / 4)

/-- The state codes of Table 11-2. -/
def AnchorState.code : AnchorState → Nat
  | .fresh => 1
  | .opened => 2
  | .idle => 3
  | .rolling => 4
  | .broken => 5

/-- The state a code names (R125). -/
def anchorState : Nat → Option AnchorState
  | 1 => some .fresh
  | 2 => some .opened
  | 3 => some .idle
  | 4 => some .rolling
  | 5 => some .broken
  | _ => none

/-- The restart action's bit, Table 11-2. -/
def RestartAction.code : RestartAction → Nat
  | .keep => 0
  | .revert => 1

/-- The restart action of a bit. -/
def restartAction (bit : Bool) : RestartAction := if bit then .revert else .keep

/-- Word 1 of an anchor copy, Table 11-2. -/
def AnchorCopy.word1 (c : AnchorCopy) : Word :=
  BitVec.ofNat 32 (c.state.code + c.sizeCode.val * 2 ^ 8 + c.memoryCode.val * 2 ^ 12 + c.action.code * 2 ^ 16)

/-- The seven words of an anchor copy before its check, Table 11-2. -/
def AnchorCopy.body (c : AnchorCopy) : List Word :=
  [c.generation, c.word1, BitVec.ofNat 32 c.headSlot, c.headSequence, c.targetSequence, c.epoch, 0]

/-- The eight words of an anchor copy, Table 11-2. -/
def AnchorCopy.words (c : AnchorCopy) : List Word := withCheck c.body

/-- The bits of word 1 outside its fields, which a valid copy has clear (section 11.3). -/
def anchorReserved : Word := ~~~ (0x000177FF : Word)

/-- The fields of word 1, when they name values: the state, the journal size code, the memory size code and the action,
with no bit set outside them (R125, section 11.3). -/
def parseWord1 (w : Word) : Option (AnchorState × Fin 8 × Fin 5 × RestartAction) :=
  if w &&& anchorReserved = 0 then
    match anchorState (w.extractLsb' 0 8).toNat with
    | some st =>
      if h : (w.extractLsb' 12 3).toNat < 5 then
        some (st, (w.extractLsb' 8 3).toFin, ⟨(w.extractLsb' 12 3).toNat, h⟩, restartAction (w.getLsbD 16))
      else none
    | none => none
  else none

/-- The anchor copy eight words hold, when it is valid for a memory of this effective size code (R125). -/
def parseAnchor (memory : Fin 5) : List Word → Option AnchorCopy
  | [generation, w1, headSlot, headSequence, target, epoch, w6, check] =>
    if crcWords [generation, w1, headSlot, headSequence, target, epoch, w6] = check then
      match parseWord1 w1 with
      | some (st, k, m, action) =>
        if m = memory && sizeAllowed memory k && decide (headSlot.toNat < slotCount k) then
          some ⟨generation, st, k, m, action, headSlot.toNat, headSequence, target, epoch⟩
        else none
      | none => none
    else none
  | _ => none

/-- The other anchor copy. -/
def Copy.other : Copy → Copy
  | .a => .b
  | .b => .a

end Sys2Proof.Machine
end

