-- ==== Sys2Proof/Machine/Ops.lean ====
section
/-!
DEFINITION. The shared operations of the blocks, each said once: the geometry of memory, capture offers, mark requests and
the pending mark set, region resolution, counting and installation, the in-chip journal's appends and releases, anchor
writes, the tenancies' accesses, and the host port's answering, holding and waking of its words.
-/
namespace Sys2Proof.Machine

/-! ## Geometry of memory (section 1.1) -/

/-- The effective size code: strap codes 5, 6 and 7 are taken as code 4 (R1, Table 1-1). -/
def effectiveCode (straps : BitVec 3) : Fin 5 :=
  if h : straps.toNat < 5 then ⟨straps.toNat, h⟩ else 4

/-- The effective size code sampled at the last cold reset (R1). -/
def State.memoryCode (s : State) : Fin 5 := effectiveCode s.control.straps

/-- The memory size in bytes (R1). -/
def State.memorySize (s : State) : Nat := memoryBytes s.memoryCode

/-- The slots S of the geometry in force, 0 when none is in force (R3, R4, R174). -/
def Engine.slots (e : Engine) : Nat :=
  match e.geometry with
  | some k => slotCount k
  | none => 0

/-- The first address above data space (R4). -/
def State.dataSpaceEnd (s : State) : Nat := s.memorySize - 64 - 32 * s.engine.slots

/-- Whether a word address lies in the data space in force (R4). -/
def State.inDataSpace (s : State) (a : Nat) : Bool := decide (a < s.dataSpaceEnd)

/-- The address of a journal slot (R3). -/
def State.slotAddress (s : State) (n : Nat) : Nat := s.dataSpaceEnd + 32 * n

/-- The address of an anchor copy (R2). -/
def State.copyAddress (s : State) : Copy → Nat
  | .a => s.memorySize - 64
  | .b => s.memorySize - 32

/-- The number of slots from one slot up to another, around the ring (00_scope.md, Arithmetic on slots). -/
def slotsFrom (slots a b : Nat) : Nat := (b + slots - a) % slots

/-- The slot after a slot. -/
def slotAfter (slots n : Nat) : Nat := (n + 1) % slots

/-- The slot before a slot. -/
def slotBefore (slots n : Nat) : Nat := (n + slots - 1) % slots

/-- Free: S less fill (R9). -/
def Engine.free (e : Engine) : Nat := e.slots - e.journal.fill

/-- Recovery is under way: RECOVERING, or a rollback run by recovery, which is part of it to the host port and the arbiter
(R53, R110). -/
def Engine.inRecovery (e : Engine) : Bool :=
  match e.state with
  | .recovering => true
  | .rolling => (e.rollback.map (·.origin)) == some .recovery
  | _ => false

/-! ## Captures (chapter 8) -/

/-- An offer: its cause and the details its owner supplies (R144, Table 8-2). -/
structure Offer where
  cause : CaptureCause
  word : Option WordDetail := none
  writeData : Option Word := none
  region : Option (Fin Config.regionCount) := none
  faultCause : Option FaultCause := none
  sources : Option SourceSet := none
  deriving DecidableEq, Repr

/-- The LAPSED condition as it is shown: set while ARMED and LAPSED (R146, R174). -/
def Engine.showsLapsed (e : Engine) : Bool := e.state == .armed && e.journal.lapsed

/-- The record an offer makes, its fixed fields read at the moment of the offer (R146, R147). The engine state is the one of
that moment also where Table 8-3 names another: a JOURNAL_HIGH from an UNDO append during FREEZE shows ROLLING (DEDUCED, log
entry 29). -/
def captureRecord (o : Offer) (s : State) : CaptureRecord where
  cause := o.cause
  stamp := s.sources.stamp
  state := s.engine.state
  lapsed := s.engine.showsLapsed
  fill := s.engine.journal.fill
  nextSequence := s.engine.journal.nextSequence
  epoch := s.engine.journal.epoch
  word := o.word
  writeData := o.writeData
  region := o.region
  faultCause := o.faultCause
  sources := o.sources

/-- Whether a slot takes an offer: ACTIVE, of its cause, accepted by its filter (R145). -/
def CaptureSlot.takes (c : CaptureSlot) (o : Offer) : Bool :=
  c.phase == .active && c.cause == o.cause && (c.filter.isNone || c.filter == o.region)

/-- The slot after a capture: a FIRST slot becomes HELD with count 1 (R148), an EVERY slot counts up to 255 (R149). -/
def CaptureSlot.capture (c : CaptureSlot) (r : CaptureRecord) : CaptureSlot :=
  match c.mode with
  | .first => { c with record := some r, toggle := !c.toggle, count := 1, phase := .held }
  | .every => { c with record := some r, toggle := !c.toggle, count := min 255 (c.count + 1) }
  | .off => c

/-- The CAPTURE flags of the slots that take an offer (R151). -/
def captureFlags (o : Offer) (s : State) : FlagSet :=
  (List.finRange Config.captureCount).foldl
    (fun x i => if s.captures[i].takes o then x ||| (captureFlag i).only else x) 0

/-- Each slot judges an offer on its own; those that take it capture it and set their flags, in one step (R145, R151). -/
def offer (o : Offer) (s : State) : State :=
  (s.withCaptures
    (Vector.ofFn fun i => if s.captures[i].takes o then s.captures[i].capture (captureRecord o s) else s.captures[i])).withEvents
    { s.events with flags := s.events.flags ||| captureFlags o s }

/-! ## Mark requests and the pending mark set (section 4.2) -/

/-- A source's bit position, Table 11-6. -/
def Source.bit : Source → Nat
  | .command => 0
  | .arm => 1
  | .line => 2
  | .timer => 3
  | .compare => 4

/-- The set that holds one source. -/
def Source.only (x : Source) : SourceSet := BitVec.twoPow 5 x.bit

/-- A source joins the pending mark set; a MARK job is queued when the set was empty and no exclusive operation runs
(R75). -/
def joinPending (x : Source) (s : State) : State :=
  (s.withJobs
    (if s.engine.markPending = 0 ∧ s.engine.exclusive = none then s.engine.jobs ++ [.mark] else s.engine.jobs)).withMarkPending
    (s.engine.markPending ||| x.only)

/-- A request from the line, the timer or a compare, by the engine state of the moment: joined, dropped with MARK_MISSED,
or ignored (R74, R38). -/
def requestMark (x : Source) (s : State) : State :=
  match s.engine.state with
  | .armed => joinPending x s
  | .rolling => setFlag .markMissed s
  | _ => s

/-- The end of an exclusive operation: a non-empty pending set is queued as a MARK job in ARMED, else emptied with
MARK_MISSED (R91). -/
def endExclusive (s : State) : State :=
  if s.engine.markPending = 0 then s.withExclusive none
  else if s.engine.state = .armed then (s.withJobs (s.engine.jobs ++ [.mark])).withExclusive none
  else setFlag .markMissed ((s.withMarkPending 0).withExclusive none)

/-- A running timer is stopped in QUIET mode (R76, R85, R88, R102). -/
def stopQuietTimer (s : State) : State :=
  if s.settings.timerMode = .quiet then s.withTimer none else s

/-- The time a line filter asks for, in µs (R81). -/
def LineFilter.micros : LineFilter → Nat
  | .zero => 0
  | .us2 => 2
  | .us50 => 50
  | .ms1 => 1000

/-- Whether the line edge selection selects a change to this level (R82). -/
def LineEdge.selects (e : LineEdge) (rising : Bool) : Bool :=
  match e with
  | .none => false
  | .rise => rising
  | .fall => !rising
  | .both => true

/-- A filtered change: the level turns, LINE_CHANGE is set, and a selected change is offered as LINE_EDGE and asks for a
mark with source LINE (R81, R82). -/
def filteredChange (s : State) : State :=
  if s.settings.lineEdge.selects (!s.sources.level) then
    requestMark .line (offer { cause := .lineEdge }
      (setFlag .lineChange (s.withSources { s.sources with level := !s.sources.level, candidate := none })))
  else setFlag .lineChange (s.withSources { s.sources with level := !s.sources.level, candidate := none })

/-- Whether a candidate has held its level for the filter's time (R81). -/
def candidateDue (f : LineFilter) (candidate : Option Nat) : Bool :=
  match candidate with
  | some t => decide (f.micros ≤ t)
  | none => false

/-- A candidate that has held its level for the filter's time becomes a filtered change (R81). -/
def changeIfDue (s : State) : State :=
  if candidateDue s.settings.lineFilter s.sources.candidate then filteredChange s else s

/-- A timer whose remaining time has reached 0 expires: a TIMER request, after which PERIODIC starts again with the full
period and QUIET stops (R83, R84, R85). A timer of mode OFF is stopped. -/
def expireTimer (s : State) : State :=
  if s.sources.timer = some 0 then
    match s.settings.timerMode with
    | .periodic => (requestMark .timer s).withTimer (some s.settings.timerPeriod)
    | .quiet => (requestMark .timer s).withTimer none
    | .off => s
  else s

/-! ## Regions (chapter 2) -/

/-- Whether an enabled entry contains a word address (R30). -/
def RegionConfig.contains (c : RegionConfig) (a : Nat) : Bool :=
  c.enabled && decide (c.base.toNat ≤ a) && decide (a ≤ c.limit.toNat + 255)

/-- The mode and the region of a word address: the lowest-numbered enabled active entry that contains it, else none and
the active default mode (R31). -/
def RegionTable.resolve (t : RegionTable) (a : Nat) : Resolution :=
  match (List.finRange Config.regionCount).find? fun i => t.active[i].config.contains a with
  | some i => ⟨t.active[i].config.mode, some i⟩
  | none => ⟨t.activeDefault, none⟩

/-- Replace one active entry. -/
def setEntry (i : Fin Config.regionCount) (e : ActiveEntry) (s : State) : State :=
  s.withRegions { s.regions with active := s.regions.active.set i e }

/-- Whether a count to this value is a match (R37). -/
def ActiveEntry.matchesAt (e : ActiveEntry) (n : Word) : Bool :=
  e.config.compareAction != .none && e.config.compareValue == n

/-- A match's first three steps: the hit flag, COMPARE_MATCH, the COMPARE offer (R37). -/
def compareMatch (i : Fin Config.regionCount) (s : State) : State :=
  offer { cause := .compare, region := some i }
    (setFlag .compareMatch (setEntry i { s.regions.active[i] with hit := true } s))

/-- A match's action MARK makes a request with source COMPARE (R38). -/
def compareAct (i : Fin Config.regionCount) (s : State) : State :=
  if s.regions.active[i].config.compareAction = .mark then requestMark .compare s else s

/-- With ring yes a matched counter becomes 0 (R39). -/
def ringReturn (i : Fin Config.regionCount) (s : State) : State :=
  if s.regions.active[i].config.ring then setEntry i { s.regions.active[i] with counter := 0 } s else s

/-- One increment of an entry's counter, with the match it may make (R35 to R39). -/
def countEntry (i : Fin Config.regionCount) (s : State) : State :=
  if s.regions.active[i].matchesAt (s.regions.active[i].counter + 1) then
    ringReturn i (compareAct i (compareMatch i
      (setEntry i { s.regions.active[i] with counter := s.regions.active[i].counter + 1 } s)))
  else setEntry i { s.regions.active[i] with counter := s.regions.active[i].counter + 1 } s

/-- Whether an enabled entry counts this (R30, R35, R36). -/
def RegionConfig.counts (c : RegionConfig) (t : CountTarget) : Bool := c.enabled && c.target == t

/-- The word's region counts, when it has one and its target is this (R35, R36). -/
def countFor (t : CountTarget) (g : Option Resolution) (s : State) : State :=
  match g.bind (·.region) with
  | some i => if s.regions.active[i].config.counts t then countEntry i s else s
  | none => s

/-- An active entry after installation (R44). -/
def installEntry (a : ActiveEntry) (t : StagedEntry) : ActiveEntry :=
  if t.installs then { a with config := t.config, counter := t.preset.getD a.counter } else a

/-- A staged entry after installation: pending clear and preset absent when it was installed (R44). -/
def settleEntry (t : StagedEntry) : StagedEntry :=
  if t.installs then { t with preset := none, installs := false } else t

/-- Installation of the pending staged settings, in one step (R44). -/
def RegionTable.install (t : RegionTable) : RegionTable where
  active := Vector.ofFn fun i => installEntry t.active[i] t.staged[i]
  staged := Vector.ofFn fun i => settleEntry t.staged[i]
  activeDefault := if t.defaultInstalls then t.stagedDefault else t.activeDefault
  stagedDefault := t.stagedDefault
  defaultInstalls := false

/-- Installation (R44). -/
def install (s : State) : State := s.withRegions s.regions.install

/-! ## The in-chip journal (sections 1.3 to 1.6) -/

/-- The link the next entry carries: the newest retained sequence, or the next sequence less one when the journal is empty
(R10). -/
def Journal.link (j : Journal) : Word := if j.fill = 0 then j.nextSequence - 1 else j.newestSequence

/-- The advance every append makes: one slot at tail (R9), one sequence number (R10). -/
def Journal.advance (slots : Nat) (j : Journal) : Journal :=
  { j with
    tail := slotAfter slots j.tail
    fill := j.fill + 1
    nextSequence := j.nextSequence + 1
    newestSequence := j.nextSequence }

/-- The touched set after an insertion: no address twice, the oldest dropped from a full set (R60). -/
def touchedInsert (a : Nat) (t : List Nat) : List Nat :=
  if a ∈ t then t
  else if t.length < Config.touchedCapacity then t ++ [a]
  else t.tail ++ [a]

/-- Emptying the in-chip journal on entry into BROKEN (R104, R127, R136). -/
def Journal.emptied (j : Journal) : Journal :=
  { j with head := j.tail, fill := 0, marks := [], touched := [], lapsed := false }

/-- A whole-journal release: head becomes tail, fill 0, the mark list and the touched set empty (R20). -/
def Journal.releaseAll (j : Journal) : Journal :=
  { j with head := j.tail, fill := 0, marks := [], touched := [] }

/-- A release of the n oldest epochs: head moves to the element that becomes first, fill falls by the slots passed over,
n elements leave the mark list (R17, R18, R19). -/
def Journal.releaseOldest (slots n : Nat) (j : Journal) : Journal :=
  match j.marks[n]? with
  | some m => { j with head := m.slot, fill := j.fill - slotsFrom slots j.head m.slot, marks := j.marks.drop n }
  | none => j

/-- Whether this append takes fill from below the watermark threshold to at or above it (R22). -/
def crossesWatermark (w slots before after : Nat) : Bool :=
  w != 0 && decide (before < w * slots / 8) && decide (w * slots / 8 ≤ after)

/-- The watermark check of an append just made (R22). -/
def checkWatermark (s : State) : State :=
  if crossesWatermark s.settings.watermark s.engine.slots (s.engine.journal.fill - 1) s.engine.journal.fill then
    offer { cause := .journalHigh } (setFlag .journalHigh s)
  else s

/-- The UNDO entry for a word, before its check (R5, R59 step 4). -/
def undoEntry (a : Nat) (old : Word) (s : State) : Entry where
  kind := .undo
  sequence := s.engine.journal.nextSequence
  link := s.engine.journal.link
  third := BitVec.ofNat 32 a
  fourth := old
  epoch := s.engine.journal.epoch
  stamp := s.sources.stamp

/-- The MARK entry of these sources (R5, R16). -/
def markEntry (sources : SourceSet) (s : State) : Entry where
  kind := .mark
  sequence := s.engine.journal.nextSequence
  link := s.engine.journal.link
  third := s.engine.journal.epoch + 1
  fourth := sources.setWidth 32
  epoch := s.engine.journal.epoch + 1
  stamp := s.sources.stamp

/-- The in-chip advance of a completed UNDO slot write: the append, and the word address into the touched set while the
engine is still ARMED (R14 steps 1 to 5, R60, R96). -/
def Journal.appendUndo (slots a : Nat) (armed : Bool) (j : Journal) : Journal :=
  if armed && !j.lapsed then { j.advance slots with touched := touchedInsert a j.touched } else j.advance slots

/-- The in-chip advance of a completed MARK slot write (R16). -/
def Journal.appendMark (slots : Nat) (sources : SourceSet) (stamp : Word) (j : Journal) : Journal :=
  { j.advance slots with
    epoch := j.epoch + 1
    marks := j.marks ++ [⟨j.tail, j.nextSequence, j.epoch + 1, sources, stamp⟩] }

/-- A completed MARK slot write: the advance, then the watermark (R16). -/
def appendMark (sources : SourceSet) (stamp : Word) (s : State) : State :=
  checkWatermark (s.withJournal (s.engine.journal.appendMark s.engine.slots sources stamp))

/-- Before a mark's append the oldest epoch is released when free is 0 or the mark list is full, which needs a second mark
to become the head (R16, R17, R77 step 1, R88 step 1). -/
def Engine.needsRoom (e : Engine) : Bool :=
  (decide (e.free = 0) || decide (Config.markCapacity ≤ e.journal.marks.length)) && decide (2 ≤ e.journal.marks.length)

/-! ## Waking the host port (R65) -/

/-- The journal engine tells the host port of a change: a word in HELD returns to WAITING (R65). -/
def wake (s : State) : State :=
  match s.host.current with
  | some c => if c.phase = .held then s.withCurrent (some { c with phase := .waiting }) else s
  | none => s

/-- A release of the n oldest epochs once its anchor write has completed (R17, R18, R19). -/
def releaseEpochs (n : Nat) (s : State) : State :=
  wake (setFlag .epochReleased (s.withJournal (s.engine.journal.releaseOldest s.engine.slots n)))

/-- A whole-journal release once its FRESH anchor write has completed (R20). -/
def releaseJournal (s : State) : State := wake (s.withJournal s.engine.journal.releaseAll)

/-- A failed anchor write outside rollback and FORMAT: ANCHOR_FAULT, BROKEN with the in-chip journal emptied and LAPSED
clear, the timer stopped, the host port told (R127). -/
def anchorFailure (s : State) : State :=
  wake ((setFlag .anchorFault ((s.withJournal s.engine.journal.emptied).withEngineState .broken)).withTimer none)

/-! ## Tenancies and their accesses (sections 6.1 and 6.4) -/

/-- All four byte lanes. -/
def allLanes : Lanes := 0xF

/-- The first write of a run of words at rising addresses (R112). -/
def issueWrites (w : Work) (a : Nat) (lanes : Lanes) (ws : List Word) (s : State) : State :=
  match ws with
  | x :: rest => s.withTenancy (some ⟨w, .write a lanes x rest⟩)
  | [] => s

/-- The first read of a run of one word and this many more (R112). -/
def issueReads (w : Work) (a more : Nat) (s : State) : State := s.withTenancy (some ⟨w, .read a more []⟩)

/-- A slot write: the eight words of an entry, all lanes (R6). -/
def issueSlotWrite (w : Work) (slot : Nat) (e : Entry) (s : State) : State :=
  issueWrites w (s.slotAddress slot) allLanes e.words s

/-- A slot read (R112). -/
def issueSlotRead (w : Work) (slot : Nat) (s : State) : State := issueReads w (s.slotAddress slot) 7 s

/-- The copy and generation the next anchor write writes: the copy that is not current, the current generation + 1; copy A
and 1 when there is no current copy (R126). -/
def Engine.anchorTarget (e : Engine) : Copy × Word :=
  match e.anchor with
  | some (c, g) => (c.other, g + 1)
  | none => (.a, 1)

/-- What the operation that asks for an anchor write supplies (R126). -/
structure AnchorFields where
  state : AnchorState
  action : RestartAction
  headSlot : Nat
  headSequence : Word
  targetSequence : Word
  epoch : Word
  deriving DecidableEq, Repr

/-- The copy an anchor write writes (R124, R126). The geometry in force stands at every anchor write. -/
def anchorCopy (f : AnchorFields) (s : State) : AnchorCopy where
  generation := s.engine.anchorTarget.2
  state := f.state
  sizeCode := s.engine.geometry.getD 0
  memoryCode := s.memoryCode
  action := f.action
  headSlot := f.headSlot
  headSequence := f.headSequence
  targetSequence := f.targetSequence
  epoch := f.epoch

/-- An anchor write: eight words to the copy that is not current, the check last (R112, R126). -/
def issueAnchor (w : Work) (f : AnchorFields) (s : State) : State :=
  issueWrites w (s.copyAddress s.engine.anchorTarget.1) allLanes (anchorCopy f s).words s

/-- A completed anchor write sets the anchor record to the copy and generation written (R126). -/
def anchorWritten (s : State) : State := s.withAnchor (some s.engine.anchorTarget)

/-- The sequence of the head: that of the first mark list element (R12). -/
def Journal.headSequence (j : Journal) : Word :=
  match j.marks with
  | m :: _ => m.sequence
  | [] => j.nextSequence

/-- The FRESH anchor of a whole-journal release (R20). -/
def freshFields (s : State) : AnchorFields :=
  ⟨.fresh, .keep, s.engine.journal.tail, s.engine.journal.nextSequence, 0, s.engine.journal.epoch⟩

/-- The head fields after a release of the n oldest epochs: the slot and sequence of the element that becomes first. -/
def Journal.headAfter (n : Nat) (j : Journal) : Nat × Word :=
  match j.marks[n]? with
  | some m => (m.slot, m.sequence)
  | none => (j.head, j.headSequence)

/-- An anchor with the head that a release of the n oldest epochs leaves, n = 0 for the head as it stands: OPEN with the
restart action given, or another state (R17, R79, R88, R90, R102). -/
def headFields (st : AnchorState) (action : RestartAction) (n : Nat) (s : State) : AnchorFields :=
  ⟨st, action, (s.engine.journal.headAfter n).1, (s.engine.journal.headAfter n).2, 0, s.engine.journal.epoch⟩

/-- The release anchor: OPEN with the arming's restart action while ARMED, IDLE with KEEP otherwise (R17, Table 7-2). -/
def releaseFields (n : Nat) (s : State) : AnchorFields :=
  if s.engine.state = .armed then headFields .opened s.engine.action n s else headFields .idle .keep n s

/-- The port is given back (R112). -/
def endTenancy (s : State) : State := s.withTenancy none

/-! ## Answering host words (sections 3.1, 3.5 and 3.6) -/

/-- The address of the current word: the first word's plus four times the position, not wrapped (R48, R49). -/
def HostAccess.wordAddress (c : HostAccess) : Nat := c.address.toNat + 4 * c.position

/-- What the bus carried for the current word (R48). -/
def HostAccess.word (c : HostAccess) : HostWord := c.words[c.position]?.getD ⟨0, 0⟩

/-- The details the host port gives the capture unit for the current word (R69, R147). -/
def faultOffer (c : HostAccess) (cause : CaptureCause) (fault : Option FaultCause) : Offer where
  cause := cause
  word := some ⟨c.wordAddress, c.kind, c.word.lanes⟩
  writeData := if c.kind = .write then some c.word.data else none
  region := c.grant.bind (·.region)
  faultCause := fault

/-- A forwarded JOURNAL write starts or reloads the QUIET timer (R69, R85). -/
def reportJournalWrite (c : HostAccess) (s : State) : State :=
  if c.kind = .write ∧ c.grant.map (·.mode) = some .journal ∧ s.engine.state = .armed ∧ s.settings.timerMode = .quiet then
    s.withTimer (some s.settings.timerPeriod)
  else s

/-- What a word counts for when it is answered DONE (R35). -/
def HostAccess.countTarget (c : HostAccess) : CountTarget :=
  match c.kind with
  | .write => .writes
  | .read => .reads

/-- The flag a FAULT answer sets for its cause (R68). -/
def setCauseFlag (cause : FaultCause) (s : State) : State :=
  match cause.flag with
  | some f => setFlag f s
  | none => s

/-- A LOCKED_WRITE answer is also offered as LOCKED_WRITE (R56, R69). -/
def offerLocked (c : HostAccess) (cause : FaultCause) (s : State) : State :=
  if cause = .lockedWrite then offer (faultOffer c .lockedWrite none) s else s

/-- A write word answered FAULT sets the skipping condition of its access (R51). -/
def setSkipping (c : HostAccess) (s : State) : State :=
  if c.kind = .write then s.withCurrent (some { c with skipping := true }) else s

/-- The answer goes out on the host bus (R185). -/
def logAnswer (a : HostAnswer) (s : State) : State :=
  s.withHost { s.host with answers := s.host.answers ++ [a] }

/-- The data of a FAULT answer: a read carries zero (R54, R68). -/
def faultData : AccessKind → Option Word
  | .read => some 0
  | .write => none

/-- The answer the bus carries for what was decided about a word (R68). -/
def WordResult.answer (k : AccessKind) : WordResult → HostAnswer
  | .done d => .done d
  | .fault x => .fault x (faultData k)

/-- A word is answered, and its answer handed to the blocks that act on it (R51, R68, R69). Every FAULT answer is offered, that
of a write without byte lanes too, which R147 says is never recorded (DEDUCED, log entry 28). -/
def deliver (a : WordResult) (c : HostAccess) (s : State) : State :=
  match a with
  | .done _ => reportJournalWrite c (countFor c.countTarget c.grant (logAnswer (a.answer c.kind) s))
  | .fault cause =>
    offer (faultOffer c .fault (some cause))
      (offerLocked c cause (setCauseFlag cause (setSkipping c (logAnswer (a.answer c.kind) s))))

/-- The part is halted for the host port and the link: from the taking of PFAIL, and while the engine is HALTED (R50,
R141). -/
def State.haltedForHost (s : State) : Bool := s.control.halted || s.engine.state == .halted

/-- The answer a word meets at its entry checks, if any, in their order (R50, R51). A write without byte lanes is answered DONE
only where no check before that one answers it FAULT, though R147 speaks of DONE alone (DEDUCED, log entry 28). -/
def entryAnswer (c : HostAccess) (s : State) : Option WordResult :=
  if c.skipping then some (.fault .skipped)
  else if s.haltedForHost then some (.fault .powerFail)
  else if !s.inDataSpace c.wordAddress then some (.fault .outOfSpace)
  else if c.kind = .write ∧ c.word.lanes = 0 then some (.done none)
  else none

/-- A word past its entry checks enters WAITING, or is held at once while recovery is under way (R50, R53). -/
def presentWord (c : HostAccess) (s : State) : State :=
  if s.engine.inRecovery then s.withCurrent (some { c with phase := .held, hold := some 0 })
  else s.withCurrent (some { c with phase := .waiting })

/-- The current word has been answered: the next word is taken (R49). Its timer is stopped and it has no grant. -/
def nextWord (s : State) : State :=
  match s.host.current with
  | some c => s.withCurrent (some { c with position := c.position + 1, phase := .entry, hold := none, grant := none })
  | none => s

/-- The access as it is taken: its first word in ENTRY (R48, R49). -/
def HostRequest.access (r : HostRequest) : HostAccess where
  kind := r.kind
  address := r.address
  words := r.words
  position := 0
  skipping := false
  phase := .entry
  hold := none
  grant := none

/-- An IDLE port takes the request that has stayed presented longest (R185). -/
def takePresented (r : HostRequest) (rest : List HostRequest) (s : State) : State :=
  s.withHost { s.host with current := some r.access, presented := rest }

/-- The host port treats words from the current position on until one asks for the memory port or is held; an access that
ends leaves the port IDLE, and it then takes the next request presented, when there is one (R49, R50, R185). The first
argument bounds the words and accesses left. -/
def takeWords : Nat → State → State
  | 0, s => s
  | n + 1, s =>
    match s.host.current with
    | none =>
      match s.host.presented with
      | r :: rest => takeWords n (takePresented r rest s)
      | [] => s
    | some c =>
      if c.words.length ≤ c.position then takeWords n (s.withCurrent none)
      else
        match entryAnswer c s with
        | some a => takeWords n (nextWord (deliver a c s))
        | none => presentWord c s

/-- More than the words left in the access in progress and in the requests presented, with a beginning and an end for each
access. -/
def HostPort.wordsLeft (h : HostPort) : Nat :=
  (h.current.map (·.words.length)).getD 0 + (h.presented.map fun r => r.words.length + 2).sum + 2

/-- The current word is answered and the port goes on (R69). -/
def answerWord (a : WordResult) (s : State) : State :=
  match s.host.current with
  | some c => takeWords s.host.wordsLeft (nextWord (deliver a c s))
  | none => s

/-- A host tenancy ends with the answer of its word (R112). -/
def finishWord (a : WordResult) (s : State) : State := answerWord a (endTenancy s)

/-- Whether a hold of this time has reached the hold limit in force; 0 means no limit (R66). -/
def holdReached (limit : Nat) (hold : Option Nat) : Bool :=
  match hold with
  | some t => limit != 0 && decide (limit ≤ t)
  | none => false

/-- A word in HELD or WAITING whose time run has reached the limit is answered STALL_EXPIRED (R66). -/
def expireIfReached (s : State) : State :=
  match s.host.current with
  | some c =>
    if (c.phase = .held ∨ c.phase = .waiting) ∧ holdReached s.settings.holdLimit c.hold then
      answerWord (.fault .stallExpired) s
    else s
  | none => s

/-- The granted word is held: the port is given back, the word enters HELD without a region index, its timer starts when it
is not yet running, and the hold expires at once when its time has already reached the limit (R65, R66). -/
def holdWord (s : State) : State :=
  match s.host.current with
  | some c =>
    expireIfReached ((endTenancy s).withCurrent
      (some { c with phase := .held, hold := some (c.hold.getD 0), grant := none }))
  | none => endTenancy s

/-! ## The end of recovery (R140) -/

/-- The host port is told that recovery has ended: a held word meets the data-space check again, and is answered
OUT_OF_SPACE or returns to WAITING (R53). -/
def wakeAfterRecovery (s : State) : State :=
  match s.host.current with
  | some c =>
    if c.phase = .held then
      if s.inDataSpace c.wordAddress then s.withCurrent (some { c with phase := .waiting })
      else answerWord (.fault .outOfSpace) s
    else s
  | none => s

/-- Recovery ends: RECOVERY_DONE, and the host port is told (R140). A tenancy that completes so sets RECOVERY_DONE also when
the part was halted, or a restart taken, during it (DESIGN CHOICE, log entry 23). -/
def endRecovery (s : State) : State := wakeAfterRecovery (setFlag .recoveryDone (s.withRecovery none))

/-! ## Requests and grants (sections 6.2 and 6.3) -/

/-- What the journal engine asks the port for (R115). -/
inductive Request where
  | markTake
  | arming
  | disarming
  | release
  | discard
  | peek
  | rollbackAnchor
  | restoreStep
  | settle
  | formatAnchors
  | formatSlot
  | formatFinal
  | recoveryRead
  | scan
  deriving DecidableEq, Repr

/-- The request of a job (R116). -/
def Job.request : Job → Request
  | .mark => .markTake
  | .release _ => .release
  | .peek _ => .peek

/-- The request of a rollback's phase (R96, R98, R100). -/
def RollbackPhase.request : RollbackPhase → Request
  | .freeze => .rollbackAnchor
  | .anchor => .rollbackAnchor
  | .restore => .restoreStep
  | .settle => .settle

/-- The request of an exclusive operation; a rollback asks by its record (R115, R117). -/
def Exclusive.request : Exclusive → Option Request
  | .arm _ => some .arming
  | .disarm => some .disarming
  | .discard => some .discard
  | .rollback => none
  | .format .anchors => some .formatAnchors
  | .format (.slot _) => some .formatSlot
  | .format .final => some .formatFinal

/-- The request of recovery's next step (R115). -/
def RecoveryStep.request : RecoveryStep → Request
  | .copyA => .recoveryRead
  | .copyB _ => .recoveryRead
  | .scan _ _ => .scan

/-- The request of the work in progress: recovery's next step, a rollback's, an exclusive operation's, else the first job
in the queue; none while HALTED (R115). FORMAT asks in BROKEN too, when a host's FRESH anchor write that was in flight at
its taking has failed (DESIGN CHOICE, log entry 31). -/
def Engine.request (e : Engine) : Option Request :=
  match e.state with
  | .recovering => e.recovery.map (·.request)
  | .rolling => e.rollback.map (·.phase.request)
  | .halted => none
  | _ =>
    match e.exclusive with
    | some x => x.request
    | none => e.jobs.head?.map (·.request)

/-- No new tenancy begins while the reset is held, from the taking of PFAIL on, or while a restart is pending (R141, R181,
R187). -/
def State.portStopped (s : State) : Bool := s.control.resetHeld || s.control.halted || s.control.restartPending

/-- The engine's request standing at the arbiter (R115). -/
def State.engineRequest (s : State) : Option Request := if s.portStopped then none else s.engine.request

/-- Whether this word asks for the memory port: in WAITING, its time within the hold limit (R52, R66). -/
def HostAccess.asks (limit : Nat) (c : HostAccess) : Bool := c.phase == .waiting && !holdReached limit c.hold

/-- Whether a host word's request stands; none does while recovery is under way (R52, R53, R66, R118). -/
def State.hostRequest (s : State) : Bool :=
  !s.portStopped && !s.engine.inRecovery && s.engine.state != .halted &&
    s.host.current.any (HostAccess.asks s.settings.holdLimit)

/-- Whether the arbiter grants the engine for this request: the port is free, the engine asks for it, and the host does not
ask or was granted last (R118). -/
def State.grantsEngine (s : State) (r : Request) : Bool :=
  s.port.tenancy.isNone && s.engineRequest == some r && (!s.hostRequest || s.port.lastSide == .host)

/-- Whether the arbiter grants the host: the port is free, a word asks, and the engine does not ask or was granted last
(R118). -/
def State.grantsHost (s : State) : Bool :=
  s.port.tenancy.isNone && s.hostRequest && (s.engineRequest.isNone || s.port.lastSide == .engine)

/-- The last-granted side takes the granted client (R118). -/
def grantTo (x : Side) (s : State) : State := s.withPort { s.port with lastSide := x }

/-- An engine tenancy's beginning: the given work at the grant, or nothing when the arbiter does not grant this request
(R118; DESIGN CHOICE, log entry 3). -/
def onGrant (r : Request) (work : State → State) (s : State) : Host.Outcome State Fault Refusal :=
  .next (if s.grantsEngine r then work (grantTo .engine s) else s)

/-- A job leaves the queue at the grant of its tenancy (R116). -/
def dequeueJob (s : State) : State := s.withJobs s.engine.jobs.tail

end Sys2Proof.Machine
end

