-- ==== Sys2Proof/Machine/Operands.lean ====
section
/-!
DEFINITION. The operand and response forms of the management link: each argument code decoded into the value its field
names, a code that names none being out of range (R184, Tables 11-5 and 11-6), and the codes and byte layouts of the
responses (section 11.5; multi-byte fields most significant byte first, R182).
-/
namespace Sys2Proof.Machine

/-! ## Codes -/

/-- A yes-or-no byte (R184). -/
def decodeYesNo (b : Byte) : Option Bool :=
  match b.toNat with
  | 0 => some false
  | 1 => some true
  | _ => none

/-- The code of a yes-or-no field. -/
def yesNoCode (b : Bool) : Byte := if b then 1 else 0

/-- Engine state codes (Table 11-5). -/
def EngineState.code : EngineState → Nat
  | .recovering => 1
  | .unformatted => 2
  | .formatting => 3
  | .disarmed => 4
  | .armed => 5
  | .rolling => 6
  | .broken => 7
  | .halted => 8

/-- Region and default mode codes (Table 11-5). -/
def Mode.code : Mode → Nat
  | .pass => 0
  | .journal => 1
  | .locked => 2

/-- The mode a code names. -/
def decodeMode : Nat → Option Mode
  | 0 => some .pass
  | 1 => some .journal
  | 2 => some .locked
  | _ => none

/-- Count target codes (Table 11-5). -/
def CountTarget.code : CountTarget → Nat
  | .writes => 0
  | .reads => 1
  | .undo => 2

/-- The count target a code names. -/
def decodeTarget : Nat → Option CountTarget
  | 0 => some .writes
  | 1 => some .reads
  | 2 => some .undo
  | _ => none

/-- Compare action codes (Table 11-5). -/
def CompareAction.code : CompareAction → Nat
  | .none => 0
  | .event => 1
  | .mark => 2

/-- The compare action a code names. -/
def decodeCompareAction : Nat → Option CompareAction
  | 0 => some .none
  | 1 => some .event
  | 2 => some .mark
  | _ => none

/-- Full policy codes (Table 11-5). -/
def FullPolicy.code : FullPolicy → Nat
  | .stall => 0
  | .refuse => 1
  | .release => 2
  | .lose => 3

/-- The full policy a code names. -/
def decodeFullPolicy : Nat → Option FullPolicy
  | 0 => some .stall
  | 1 => some .refuse
  | 2 => some .release
  | 3 => some .lose
  | _ => none

/-- Timer mode codes (Table 11-5). -/
def TimerMode.code : TimerMode → Nat
  | .off => 0
  | .periodic => 1
  | .quiet => 2

/-- The timer mode a code names. -/
def decodeTimerMode : Nat → Option TimerMode
  | 0 => some .off
  | 1 => some .periodic
  | 2 => some .quiet
  | _ => none

/-- Line edge codes (Table 11-5). -/
def LineEdge.code : LineEdge → Nat
  | .none => 0
  | .rise => 1
  | .fall => 2
  | .both => 3

/-- The line edge selection a code names. -/
def decodeLineEdge : Nat → Option LineEdge
  | 0 => some .none
  | 1 => some .rise
  | 2 => some .fall
  | 3 => some .both
  | _ => none

/-- Line filter codes (Table 11-5). -/
def LineFilter.code : LineFilter → Nat
  | .zero => 0
  | .us2 => 1
  | .us50 => 2
  | .ms1 => 3

/-- The line filter a code names. -/
def decodeLineFilter : Nat → Option LineFilter
  | 0 => some .zero
  | 1 => some .us2
  | 2 => some .us50
  | 3 => some .ms1
  | _ => none

/-- The restart action of ARM's argument (Table 11-3). -/
def decodeRestartAction : Nat → Option RestartAction
  | 0 => some .keep
  | 1 => some .revert
  | _ => none

/-- Capture mode codes (Table 11-5). -/
def CaptureMode.code : CaptureMode → Nat
  | .off => 0
  | .first => 1
  | .every => 2

/-- The capture mode a code names. -/
def decodeCaptureMode : Nat → Option CaptureMode
  | 0 => some .off
  | 1 => some .first
  | 2 => some .every
  | _ => none

/-- Capture phase codes (Table 11-5). -/
def CapturePhase.code : CapturePhase → Nat
  | .off => 0
  | .active => 1
  | .held => 2

/-- Capture cause codes (Table 11-5). -/
def CaptureCause.code : CaptureCause → Nat
  | .lineEdge => 0
  | .compare => 1
  | .lockedWrite => 2
  | .fault => 3
  | .journalHigh => 4
  | .markTaken => 5
  | .rollbackEnd => 6
  | .powerFail => 7

/-- The capture cause a code names. -/
def decodeCaptureCause : Nat → Option CaptureCause
  | 0 => some .lineEdge
  | 1 => some .compare
  | 2 => some .lockedWrite
  | 3 => some .fault
  | 4 => some .journalHigh
  | 5 => some .markTaken
  | 6 => some .rollbackEnd
  | 7 => some .powerFail
  | _ => none

/-- Fault cause codes (Table 11-5). -/
def FaultCause.code : FaultCause → Nat
  | .outOfSpace => 1
  | .lockedWrite => 2
  | .journalFull => 3
  | .stallExpired => 4
  | .memoryFault => 5
  | .brokenWrite => 6
  | .powerFail => 7
  | .skipped => 8
  | .restart => 9

/-- Status codes (Table 11-4). -/
def Status.code : Status → Nat
  | .ok => 0
  | .accepted => 1
  | .busy => 2
  | .wrongState => 3
  | .badArg => 4
  | .unknown => 5
  | .notFormatted => 6
  | .notReady => 7
  | .halted => 8

/-- Validity codes (Table 11-10). -/
def Validity.code : Validity → Nat
  | .valid => 0
  | .invalid => 1
  | .readError => 2

/-- A region index (R41, R47). -/
def decodeRegion (n : Nat) : Option (Fin Config.regionCount) :=
  if h : n < Config.regionCount then some ⟨n, h⟩ else none

/-- A capture slot number (R152, R153). -/
def decodeCaptureSlot (n : Nat) : Option (Fin Config.captureCount) :=
  if h : n < Config.captureCount then some ⟨n, h⟩ else none

/-- A region filter: FF hex for ANY, or a region index (Table 11-5). -/
def decodeFilter (b : Byte) : Option (Option (Fin Config.regionCount)) :=
  if b = 0xFF then some none else (decodeRegion b.toNat).map some

/-- The code of a region filter. -/
def filterCode (f : Option (Fin Config.regionCount)) : Byte :=
  match f with
  | none => 0xFF
  | some i => BitVec.ofNat 8 i.val

/-- A flag set of 4 bytes: bits 25 to 31 name no flag (R184). -/
def decodeFlagSet (w : Word) : Option FlagSet :=
  if w.extractLsb' 25 7 = 0 then some (w.setWidth 25) else none

/-- A journal size code allowed for this memory (R3, R129). -/
def decodeSizeCode (memory : Fin 5) (b : Byte) : Option (Fin 8) :=
  if h : b.toNat < 8 then (if sizeAllowed memory ⟨b.toNat, h⟩ then some ⟨b.toNat, h⟩ else none) else none

/-! ## Responses -/

/-- An answer with no data (R170). -/
def answerOnly (x : Status) : Response := ⟨x, []⟩

/-- A read's answer: OK with its bytes (R170). -/
def answerData (bs : List Byte) : Response := ⟨.ok, bs⟩

/-- A one-byte field. -/
def byteOf (n : Nat) : Byte := BitVec.ofNat 8 n

/-- A two-byte field. -/
def twoBytes (n : Nat) : List Byte := bytes16 (BitVec.ofNat 16 n)

/-- A byte of up to eight single-bit fields, bit 0 first. -/
def bitsByte (bs : List Bool) : Byte := BitVec.ofNat 8 (bs.foldr (fun b n => (if b then 1 else 0) + 2 * n) 0)

/-- An optional word field: zero when absent. -/
def wordOrZero (w : Option Word) : Word := w.getD 0

/-! ## TABLE_WRITE's fields (R41, R184) -/

/-- A field of the presence mask: kept when absent, and then not decoded; else the value decoded, if it names one. -/
def maskedField {α : Type} (present : Bool) (decoded : Option α) (kept : α) : Option α :=
  if present then decoded else some kept

/-- Whether a base and limit make a region of this memory: multiples of 256, base ≤ limit ≤ memory size − 256 (R41). -/
def rangeAllowed (memory : Nat) (base limit : Addr) : Bool :=
  decide (base.toNat % 256 = 0) && decide (limit.toNat % 256 = 0) && decide (base.toNat ≤ limit.toNat) &&
    decide (limit.toNat ≤ memory - 256)

/-- The configuration a TABLE_WRITE would leave, when every field named is in range (R41). -/
def tableConfig (mask : BitVec 16) (f : TableFields) (c : RegionConfig) : Option RegionConfig := do
  let enabled ← maskedField (mask.getLsbD 0) (decodeYesNo f.enabled) c.enabled
  let mode ← maskedField (mask.getLsbD 3) (decodeMode f.mode.toNat) c.mode
  let target ← maskedField (mask.getLsbD 4) (decodeTarget f.target.toNat) c.target
  let action ← maskedField (mask.getLsbD 6) (decodeCompareAction f.action.toNat) c.compareAction
  let ring ← maskedField (mask.getLsbD 7) (decodeYesNo f.ring) c.ring
  return {
    enabled := enabled
    base := if mask.getLsbD 1 then f.base else c.base
    limit := if mask.getLsbD 2 then f.limit else c.limit
    mode := mode
    target := target
    compareValue := if mask.getLsbD 5 then f.compareValue else c.compareValue
    compareAction := action
    ring := ring }

/-- The staged entry a TABLE_WRITE leaves, when the mask names no field beyond the nine and every check of R41 passes. -/
def tableEntry (memory : Nat) (mask : BitVec 16) (f : TableFields) (t : StagedEntry) : Option StagedEntry :=
  if mask.extractLsb' 9 7 = 0 then
    match tableConfig mask f t.config with
    | some c =>
      if rangeAllowed memory c.base c.limit then
        some ⟨c, if mask.getLsbD 8 then some f.preset else t.preset, true⟩
      else none
    | none => none
  else none

/-! ## Response layouts (section 11.5) -/

/-- TABLE_READ of the active table, Table 11-8. -/
def activeBytes (i : Fin Config.regionCount) (e : ActiveEntry) (def0 : Mode) : List Byte :=
  [0, byteOf i.val, yesNoCode e.config.enabled] ++ bytes24 e.config.base ++ bytes24 e.config.limit ++
    [byteOf e.config.mode.code, byteOf e.config.target.code, byteOf e.config.compareAction.code, yesNoCode e.config.ring] ++
    bytes32 e.config.compareValue ++ bytes32 e.counter ++ [yesNoCode e.hit, 0, byteOf def0.code, 0]

/-- TABLE_READ of the staged table, Table 11-8. -/
def stagedBytes (i : Fin Config.regionCount) (e : StagedEntry) (def0 : Mode) (installs : Bool) : List Byte :=
  [1, byteOf i.val, yesNoCode e.config.enabled] ++ bytes24 e.config.base ++ bytes24 e.config.limit ++
    [byteOf e.config.mode.code, byteOf e.config.target.code, byteOf e.config.compareAction.code, yesNoCode e.config.ring] ++
    bytes32 e.config.compareValue ++ bytes32 (wordOrZero e.preset) ++
    [yesNoCode e.preset.isSome, yesNoCode e.installs, byteOf def0.code, yesNoCode installs]

/-- The journal is retained: DISARMED with fill above 0 (R8, R174). -/
def Engine.retained (e : Engine) : Bool := e.state == .disarmed && e.journal.fill != 0

/-- The STATUS response, Table 11-7 (R174). -/
def statusBytes (s : State) : List Byte :=
  [byteOf s.engine.state.code,
    bitsByte [s.engine.showsLapsed, s.engine.retained, s.sources.level, s.control.pfail]] ++
    twoBytes s.engine.journal.fill ++ twoBytes s.engine.slots ++ [byteOf s.engine.journal.marks.length] ++
    bytes32 s.engine.journal.epoch ++ bytes32 s.engine.journal.nextSequence ++ twoBytes s.engine.steps ++
    [s.engine.markPending.setWidth 8] ++ bytes32 (s.events.flags.setWidth 32) ++
    bytes32 (s.events.pendingView.setWidth 32)

/-- One element of a MARKS_READ response: slot and sources in 3 bytes, sequence, timestamp (section 11.5). -/
def markBytes (m : MarkElement) : List Byte :=
  bytes24 (BitVec.ofNat 24 (m.slot % 2 ^ 15 + m.sources.toNat * 2 ^ 16)) ++ bytes32 m.sequence ++ bytes32 m.stamp

/-- A MARKS_READ response: nothing for no element, else the first element's epoch and then the elements (section 11.5). -/
def marksBytes : List MarkElement → List Byte
  | [] => []
  | m :: ms => bytes32 m.epoch ++ (m :: ms).flatMap markBytes

/-- A PEEK_READ response, Table 11-10. -/
def peekBytes (r : PeekResult) : List Byte :=
  twoBytes r.slot ++ [byteOf r.validity.code, yesNoCode (!r.retained)] ++ r.words.flatMap bytes32

/-- The address field of a capture record, 3 bytes (Table 11-11). What it shows for an address that does not fit is open
(DESIGN CHOICE, log entry 6). -/
def addressField (a : Nat) : Addr := if a < 2 ^ 24 then BitVec.ofNat 24 a else Config.addressBeyondField a

/-- The access byte of a capture record: bit 7 write, bits 3..0 the byte lanes (Table 11-11). -/
def accessByte (w : WordDetail) : Byte :=
  (match w.kind with
   | .write => 0x80
   | .read => 0) ||| w.lanes.setWidth 8

/-- The presence byte of CAPTURE_READ, Table 11-11. -/
def presenceByte (r : CaptureRecord) : Byte :=
  bitsByte [true, r.word.isSome, r.writeData.isSome, r.region.isSome, r.faultCause.isSome, r.sources.isSome]

/-- Bytes 6 to 33 of CAPTURE_READ for a record held, Table 11-11. -/
def recordBytes (r : CaptureRecord) : List Byte :=
  [presenceByte r, byteOf r.cause.code] ++ bytes32 r.stamp ++
    [byteOf r.state.code ||| (if r.lapsed then 0x80 else 0)] ++
    twoBytes r.fill ++ bytes32 r.nextSequence ++ bytes32 r.epoch ++
    (match r.word with
     | some w => bytes24 (addressField w.address) ++ [accessByte w]
     | none => [0, 0, 0, 0]) ++
    bytes32 (wordOrZero r.writeData) ++
    [match r.region with
     | some i => byteOf i.val
     | none => 0,
     match r.faultCause with
     | some f => byteOf f.code
     | none => 0,
     (r.sources.getD 0).setWidth 8]

/-- The CAPTURE_READ response, Table 11-11; bytes 6 to 33 are zero for an empty record (R153). -/
def captureBytes (c : CaptureSlot) : List Byte :=
  [byteOf c.mode.code, byteOf c.phase.code, byteOf c.cause.code, filterCode c.filter, yesNoCode c.toggle, byteOf c.count] ++
    (match c.record with
     | some r => recordBytes r
     | none => List.replicate 28 0)

end Sys2Proof.Machine
end

