-- ==== Sys2Proof/Machine/Frames.lean ====
section
/-!
DEFINITION. The management link's frames: how a frame's bytes move its phase, when a command is taken and how its response
is formed and shifted out, the answers the link gives by itself, and FRAME_BEGIN, FRAME_END, FRAME_DISCARDED and
FRAME_UNKNOWN (sections 10.1, 10.2 and 10.6).
-/
namespace Sys2Proof.Machine

/-- A byte the controller completes before the command is taken (R167). The arguments phase counts the bytes to come. -/
def FramePhase.afterByte (p : FramePhase) (b : Byte) : FramePhase :=
  match p with
  | .code => .length
  | .length => if b = 0 then .turnaround else .arguments b.toNat
  | .arguments left => if left ≤ 1 then .turnaround else .arguments (left - 1)
  | p => p

/-- The phase after a run of received bytes (R167). -/
def FramePhase.receive (p : FramePhase) (bs : List Byte) : FramePhase := bs.foldl FramePhase.afterByte p

/-- A byte clocked once the command has been taken: the turnaround, the status, length and response bytes, then nothing
(R167, R170). -/
def FramePhase.clocked (m : Nat) (p : FramePhase) : FramePhase :=
  match p with
  | .turnaround => .response (m + 2)
  | .response left => if left ≤ 1 then .drain else .response (left - 1)
  | p => p

/-- The bytes of a response in the order they are shifted out: status, length, data (Table 10-1). -/
def Response.bytes (r : Response) : List Byte := byteOf r.status.code :: byteOf r.data.length :: r.data

/-- The byte the part is shifting out: the response's next byte while in RESPONSE, else zero (R167). -/
def Link.misoByte (l : Link) : Byte :=
  match l.phase, l.response with
  | .response left, some r => r.bytes.getD (r.bytes.length - left) 0
  | _, _ => 0

/-- The link after a byte time in which the controller clocks out the answer (R167; DESIGN CHOICE, log entry 2). -/
def Link.clock (l : Link) : Link :=
  match l.response with
  | some r => { l with phase := l.phase.clocked r.data.length }
  | none => l

/-- The bytes of a command's frame up to its taking: code, length, arguments (Table 10-1). -/
def frameBytes (c : Instr) : List Byte :=
  match commandFrame c with
  | some (code, args) => code :: byteOf args.length :: args
  | none => []

/-- The link is receiving a frame whose command has not been taken (R167, R171). -/
def State.receiving (s : State) : Bool := !s.control.resetHeld && s.link.phase == .code

/-- A command is taken at the end of its frame's arguments: it is judged by its owner, and its response formed, at that
moment (R168, R170). No command is taken outside a frame. -/
def serve (c : Instr) (judge : State → Response × State) (s : State) : Host.Outcome State Fault Refusal :=
  .next (if s.receiving then
    (judge s).2.withLink
      { s.link with phase := s.link.phase.receive (frameBytes c), response := some (judge s).1 }
    else s)

/-- While the part is HALTED the link answers HALTED before any argument is checked (R172, R180); a RESTART ends that, though
the engine state is HALTED until the WARM_RESTART (R181; log entries 14 and 32). -/
def unlessHalted (judge : State → Response × State) (s : State) : Response × State :=
  if s.control.halted then (answerOnly .halted, s) else judge s

/-- While a restart is pending the link answers the journal engine's commands BUSY (R181). -/
def unlessRestarting (judge : State → Response × State) (s : State) : Response × State :=
  if s.control.restartPending then (answerOnly .busy, s) else judge s

/-- A command handed to the journal engine, past the link's own refusals (R172, R180, R181). -/
def engineCommand (judge : State → Response × State) : State → Response × State :=
  unlessHalted (unlessRestarting judge)

/-- A refusal leaves every block as it was (R172). -/
def refuse (x : Status) (s : State) : Response × State := (answerOnly x, s)

/-- Whether a step belongs to a job: MARK, RELEASE or PEEK (R116). -/
def Work.ofJob : Work → Bool
  | .markRoom _ _ => true
  | .markAppend _ _ _ => true
  | .markLapseEnd _ _ => true
  | .markLimit _ _ => true
  | .release _ => true
  | .peek _ _ => true
  | _ => false

/-- Whether a job is running: its tenancy is in progress (R115, R116). -/
def State.jobRunning (s : State) : Bool :=
  match s.port.tenancy with
  | some t => t.work.ofJob
  | none => false

/-- Whether the engine has work that bars an exclusive operation: a job queued or running, or an exclusive operation
running (R117). -/
def State.engineOccupied (s : State) : Bool :=
  !s.engine.jobs.isEmpty || s.jobRunning || s.engine.exclusive.isSome

/-- FRAME_BEGIN: SSEL falls while the link is IDLE, and the phase becomes CODE (R167). While the reset is held the link
takes no frame, and no SSEL fall can come while a selection is ignored (R171). -/
def execFrameBegin (s : State) : Host.Outcome State Fault Refusal :=
  .next (if !s.control.resetHeld && s.link.phase == .idle && !s.link.ignoring then
    s.withLink ⟨.code, false, none⟩ else s)

/-- The phases in which the frame's command has been taken (R167). -/
def FramePhase.taken : FramePhase → Bool
  | .turnaround => true
  | .response _ => true
  | .drain => true
  | _ => false

/-- The phases in which the frame's command has not been taken (R167). -/
def FramePhase.untaken : FramePhase → Bool
  | .code => true
  | .length => true
  | .arguments _ => true
  | _ => false

/-- FRAME_END: SSEL rises after the taking, any unread response is lost, or an ignored selection ends (R167, R170, R171). -/
def execFrameEnd (s : State) : Host.Outcome State Fault Refusal :=
  .next (if s.link.phase.taken || s.link.ignoring then s.withLink ⟨.idle, false, none⟩ else s)

/-- FRAME_DISCARDED: SSEL rises before the taking; the frame has no effect on any block (R168). -/
def execFrameDiscarded (s : State) : Host.Outcome State Fault Refusal :=
  .next (if s.link.phase.untaken then s.withLink ⟨.idle, false, none⟩ else s)

/-- FRAME_UNKNOWN: a malformed frame is received in full, whatever its length, and answered UNKNOWN without being handed to
any block (R169). -/
def execFrameUnknown (code length : Byte) (s : State) : Host.Outcome State Fault Refusal :=
  .next (if s.receiving && malformed code length then
    s.withLink { s.link with
      phase := s.link.phase.receive (code :: length :: List.replicate length.toNat 0)
      response := some (answerOnly .unknown) }
    else s)

end Sys2Proof.Machine
end

