-- ==== Sys2Proof/Machine/Marks.lean ====
section
/-!
DEFINITION. Marks: the MARK command and the tenancy that takes a mark, step by step, with its failures (R76 to R80).
-/
namespace Sys2Proof.Machine

/-- MARK's judgement (R80). -/
def judgeMark (s : State) : Response × State :=
  match s.engine.state with
  | .halted => refuse .halted s
  | .rolling => refuse .busy s
  | .recovering => refuse .busy s
  | .formatting => refuse .busy s
  | .unformatted => if s.engine.exclusive.isSome then refuse .busy s else refuse .wrongState s
  | .disarmed => if s.engine.exclusive.isSome then refuse .busy s else refuse .wrongState s
  | .broken => if s.engine.exclusive.isSome then refuse .busy s else refuse .wrongState s
  | .armed => if s.engine.exclusive.isSome then refuse .busy s else (answerOnly .accepted, joinPending .command s)

/-- MARK (R80). -/
def execMark (s : State) : Host.Outcome State Fault Refusal := serve .mark (engineCommand judgeMark) s

/-- Step 2 of a mark: the MARK slot write at tail (R77). -/
def markAppendStep (sources : SourceSet) (limit : Nat) (s : State) : State :=
  issueSlotWrite (.markAppend sources limit s.sources.stamp) s.engine.journal.tail (markEntry sources s) s

/-- Step 1 of a mark: room (R77). -/
def markBegin (sources : SourceSet) (limit : Nat) (s : State) : State :=
  if s.engine.needsRoom then issueAnchor (.markRoom sources limit) (headFields .opened s.engine.action 1 s) s
  else markAppendStep sources limit s

/-- MARK_TAKE: the sources are taken, the pending set emptied and a QUIET timer stopped; the mark is taken in ARMED and
missed in any other state (R76). -/
def execMarkTake (s : State) : Host.Outcome State Fault Refusal :=
  onGrant .markTake (fun s =>
    if s.engine.state = .armed then
      markBegin s.engine.markPending s.settings.retainedLimit (stopQuietTimer ((dequeueJob s).withMarkPending 0))
    else setFlag .markMissed (stopQuietTimer ((dequeueJob s).withMarkPending 0))) s

/-- The touched set emptied (R60). -/
def emptyTouched (s : State) : State := s.withJournal { s.engine.journal with touched := [] }

/-- Steps 5 to 7 of a mark: the touched set, the installation, the report (R77). -/
def markFinish (sources : SourceSet) (s : State) : State :=
  offer { cause := .markTaken, sources := some sources }
    (setFlag .markTaken (install (emptyTouched (endTenancy s))))

/-- Step 4 of a mark: the retained limit (R18, R77). -/
def markLimitStep (sources : SourceSet) (limit : Nat) (s : State) : State :=
  if limit < s.engine.journal.marks.length then
    issueAnchor (.markLimit sources (s.engine.journal.marks.length - limit))
      (headFields .opened s.engine.action (s.engine.journal.marks.length - limit) s) s
  else markFinish sources s

/-- The release of step 1 has completed (R17, R77). -/
def markRoomDone (sources : SourceSet) (limit : Nat) (s : State) : State :=
  markAppendStep sources limit (releaseEpochs 1 (anchorWritten s))

/-- After step 2: the OPEN anchor when the engine was LAPSED, else step 4 (R77, R79). -/
def markAfterAppend (sources : SourceSet) (limit : Nat) (s : State) : State :=
  if s.engine.journal.lapsed then
    issueAnchor (.markLapseEnd sources limit) (headFields .opened s.engine.action 0 s) s
  else markLimitStep sources limit s

/-- The MARK slot write has completed (R16, R77). -/
def markAppendDone (sources : SourceSet) (limit : Nat) (stamp : Word) (s : State) : State :=
  markAfterAppend sources limit (appendMark sources stamp s)

/-- LAPSED cleared (R79). -/
def clearLapsed (s : State) : State := s.withJournal { s.engine.journal with lapsed := false }

/-- The OPEN anchor of a LAPSED end has completed (R79). -/
def markLapseEndDone (sources : SourceSet) (limit : Nat) (s : State) : State :=
  markLimitStep sources limit (clearLapsed (anchorWritten s))

/-- The limit anchor write has completed (R18, R77). -/
def markLimitDone (sources : SourceSet) (count : Nat) (s : State) : State :=
  markFinish sources (releaseEpochs count (anchorWritten s))

/-- A mark tenancy stopped by a failed anchor write: BROKEN, MARK_MISSED (R78). -/
def markAnchorFailed (s : State) : State := setFlag .markMissed (endTenancy (anchorFailure s))

/-- A mark tenancy stopped by its failed slot write: MEMORY_FAULT, MARK_MISSED, nothing advanced (R16, R78). -/
def markAppendFailed (s : State) : State := setFlag .markMissed (setFlag .memoryFault (endTenancy s))

end Sys2Proof.Machine
end

