-- ==== Sys2Proof/Machine/Arming.lean ====
section
/-!
DEFINITION. ARM and DISARM and their tenancies (sections 4.7 and 4.8).
-/
namespace Sys2Proof.Machine

/-- ARM's judgement (R87). -/
def judgeArm (action : Byte) (s : State) : Response × State :=
  if s.engine.state = .halted then refuse .halted s
  else match decodeRestartAction action.toNat with
    | none => refuse .badArg s
    | some a =>
      match s.engine.state with
      | .halted => refuse .halted s
      | .unformatted => refuse .notFormatted s
      | .rolling => refuse .busy s
      | .recovering => refuse .busy s
      | .formatting => refuse .busy s
      | .armed => if s.engineOccupied then refuse .busy s else refuse .wrongState s
      | .broken => if s.engineOccupied then refuse .busy s else refuse .wrongState s
      | .disarmed =>
        if s.engineOccupied then refuse .busy s else (answerOnly .accepted, s.withExclusive (some (.arm a)))

/-- ARM (R87). -/
def execArm (action : Byte) (s : State) : Host.Outcome State Fault Refusal :=
  serve (.arm action) (engineCommand (judgeArm action)) s

/-- Step 2 of an arming: the MARK slot write with sources {ARM} (R88). -/
def armAppendStep (action : RestartAction) (limit : Nat) (s : State) : State :=
  issueSlotWrite (.armAppend action limit s.sources.stamp) s.engine.journal.tail (markEntry Source.arm.only s) s

/-- Step 1 of an arming: room, with the anchor IDLE (R88). -/
def armBegin (action : RestartAction) (limit : Nat) (s : State) : State :=
  if s.engine.needsRoom then issueAnchor (.armRoom action limit) (headFields .idle .keep 1 s) s
  else armAppendStep action limit s

/-- The restart action an arming waits with (R87). -/
def Engine.armingAction (e : Engine) : RestartAction :=
  match e.exclusive with
  | some (.arm a) => a
  | _ => .keep

/-- ARMING: missed when the engine has become BROKEN meanwhile, else the arming's steps, with the retained limit read at
the grant (R88, R177). -/
def execArming (s : State) : Host.Outcome State Fault Refusal :=
  onGrant .arming (fun s =>
    if s.engine.state = .broken then endExclusive (setFlag .markMissed s)
    else armBegin s.engine.armingAction s.settings.retainedLimit s) s

/-- The IDLE release of step 1 has completed (R88). -/
def armRoomDone (action : RestartAction) (limit : Nat) (s : State) : State :=
  armAppendStep action limit (releaseEpochs 1 (anchorWritten s))

/-- Steps 3 and 4 of an arming: the OPEN anchor with the head that leaves the limit in the list (R88). -/
def armAnchorStep (action : RestartAction) (limit : Nat) (s : State) : State :=
  issueAnchor (.armAnchor action (s.engine.journal.marks.length - limit))
    (headFields .opened action (s.engine.journal.marks.length - limit) s) s

/-- The MARK slot write has completed (R88). -/
def armAppendDone (action : RestartAction) (limit : Nat) (stamp : Word) (s : State) : State :=
  armAnchorStep action limit (appendMark Source.arm.only stamp s)

/-- The release that the OPEN anchor of an arming recorded, if any (R88). -/
def armRelease (count : Nat) (s : State) : State := if count = 0 then s else releaseEpochs count s

/-- The engine becomes ARMED with LAPSED clear, the touched set empty and the action kept for this arming (R88). -/
def becomeArmed (action : RestartAction) (s : State) : State :=
  s.withEngine { s.engine with
    state := .armed
    action := action
    journal := { s.engine.journal with lapsed := false, touched := [] } }

/-- The mark timer at the completion of an arming: started in PERIODIC mode, stopped in QUIET (R84, R85, R88). -/
def armTimer (s : State) : State :=
  match s.settings.timerMode with
  | .periodic => s.withTimer (some s.settings.timerPeriod)
  | .quiet => s.withTimer none
  | .off => s

/-- The OPEN anchor of an arming has completed (R88). -/
def armAnchorDone (action : RestartAction) (count : Nat) (s : State) : State :=
  endExclusive (armTimer
    (offer { cause := .markTaken, sources := some Source.arm.only }
      (setFlag .markTaken (install (becomeArmed action (armRelease count (anchorWritten (endTenancy s))))))))

/-- An arming stopped by a failed anchor write (R88). -/
def armAnchorFailed (s : State) : State := endExclusive (setFlag .markMissed (endTenancy (anchorFailure s)))

/-- An arming stopped by its failed slot write: still DISARMED (R88). -/
def armAppendFailed (s : State) : State :=
  endExclusive (setFlag .markMissed (setFlag .memoryFault (endTenancy s)))

/-- DISARM's judgement (R89). -/
def judgeDisarm (s : State) : Response × State :=
  match s.engine.state with
  | .halted => refuse .halted s
  | .rolling => refuse .busy s
  | .recovering => refuse .busy s
  | .formatting => refuse .busy s
  | .unformatted => if s.engineOccupied then refuse .busy s else refuse .wrongState s
  | .disarmed => if s.engineOccupied then refuse .busy s else refuse .wrongState s
  | .broken => if s.engineOccupied then refuse .busy s else refuse .wrongState s
  | .armed =>
    if s.engineOccupied then refuse .busy s else (answerOnly .accepted, s.withExclusive (some .disarm))

/-- DISARM (R89). -/
def execDisarm (s : State) : Host.Outcome State Fault Refusal := serve .disarm (engineCommand judgeDisarm) s

/-- DISARMING: nothing but its end when the engine has become BROKEN meanwhile; FRESH when LAPSED or empty; else IDLE
(R90). -/
def execDisarming (s : State) : Host.Outcome State Fault Refusal :=
  onGrant .disarming (fun s =>
    if s.engine.state = .broken then endExclusive s
    else if s.engine.journal.lapsed = true ∨ s.engine.journal.fill = 0 then issueAnchor (.disarm true) (freshFields s) s
    else issueAnchor (.disarm false) (headFields .idle .keep 0 s) s) s

/-- The in-chip journal after a disarming: released whole by a FRESH write, kept by an IDLE one; LAPSED clear and the
touched set empty (R90). -/
def Journal.disarmed (fresh : Bool) (j : Journal) : Journal :=
  { (if fresh then j.releaseAll else j) with lapsed := false, touched := [] }

/-- The anchor write of a disarming has completed (R90). -/
def disarmDone (fresh : Bool) (s : State) : State :=
  endExclusive (wake ((((anchorWritten (endTenancy s)).withJournal (s.engine.journal.disarmed fresh)).withEngineState
    .disarmed).withTimer none))

/-- The anchor write of a disarming has failed (R90). -/
def disarmFailed (s : State) : State := endExclusive (endTenancy (anchorFailure s))

end Sys2Proof.Machine
end

