-- ==== Sys2Proof/Machine/Capture.lean ====
section
/-!
DEFINITION. The capture unit's commands: CAPTURE_SET and CAPTURE_READ (R152, R153).
-/
namespace Sys2Proof.Machine

/-- A filter naming a region is given only with the causes that carry a region index (R152). -/
def filterAllowed (cause : CaptureCause) (filter : Option (Fin Config.regionCount)) : Bool :=
  match cause with
  | .compare => true
  | .lockedWrite => true
  | .fault => true
  | _ => filter.isNone

/-- The slot CAPTURE_SET leaves: its settings, an empty record, count and toggle 0 (R152). -/
def freshSlot (mode : CaptureMode) (cause : CaptureCause) (filter : Option (Fin Config.regionCount)) : CaptureSlot where
  mode := mode
  phase := if mode = .off then .off else .active
  cause := cause
  filter := filter
  toggle := false
  count := 0
  record := none

/-- The slot and settings of a CAPTURE_SET, when every check passes (R152). -/
def captureSetting (slot mode cause filter : Byte) : Option (Fin Config.captureCount × CaptureSlot) := do
  let i ← decodeCaptureSlot slot.toNat
  let m ← decodeCaptureMode mode.toNat
  let c ← decodeCaptureCause cause.toNat
  let f ← decodeFilter filter
  if filterAllowed c f then some (i, freshSlot m c f) else none

/-- CAPTURE_SET's judgement (R152). -/
def judgeCaptureSet (slot mode cause filter : Byte) (s : State) : Response × State :=
  match captureSetting slot mode cause filter with
  | some (i, c) => (answerOnly .ok, s.withCaptures (s.captures.set i c))
  | none => refuse .badArg s

/-- CAPTURE_SET (R152). -/
def execCaptureSet (slot mode cause filter : Byte) (s : State) : Host.Outcome State Fault Refusal :=
  serve (.captureSet slot mode cause filter) (unlessHalted (judgeCaptureSet slot mode cause filter)) s

/-- CAPTURE_READ's judgement (R153). -/
def judgeCaptureRead (slot : Byte) (s : State) : Response × State :=
  match decodeCaptureSlot slot.toNat with
  | some i => (answerData (captureBytes s.captures[i]), s)
  | none => refuse .badArg s

/-- CAPTURE_READ (R153). -/
def execCaptureRead (slot : Byte) (s : State) : Host.Outcome State Fault Refusal :=
  serve (.captureRead slot) (judgeCaptureRead slot) s

end Sys2Proof.Machine
end

