-- ==== Sys2Proof/Machine/Format.lean ====
section
/-!
DEFINITION. FORMAT and its tenancies (section 7.3).
-/
namespace Sys2Proof.Machine

/-- The empty in-chip journal FORMAT sets (R129). -/
def formattedJournal : Journal where
  head := 0
  tail := 0
  fill := 0
  nextSequence := 1
  newestSequence := 0
  epoch := 0
  marks := []
  touched := []
  lapsed := false

/-- FORMAT is taken: FORMATTING, the new code in force, the in-chip journal empty, the STATUS field S (R129). -/
def beginFormat (k : Fin 8) (s : State) : State :=
  s.withEngine { s.engine with
    state := .formatting
    geometry := some k
    journal := formattedJournal
    steps := slotCount k
    exclusive := some (.format .anchors) }

/-- FORMAT past its argument check (R129). -/
def takeFormat (k : Fin 8) (s : State) : Response × State :=
  match s.engine.state with
  | .halted => refuse .halted s
  | .recovering => refuse .busy s
  | .rolling => refuse .busy s
  | .formatting => refuse .busy s
  | .armed => if s.engineOccupied then refuse .busy s else refuse .wrongState s
  | .unformatted => if s.engineOccupied then refuse .busy s else (answerOnly .accepted, beginFormat k s)
  | .disarmed => if s.engineOccupied then refuse .busy s else (answerOnly .accepted, beginFormat k s)
  | .broken => if s.engineOccupied then refuse .busy s else (answerOnly .accepted, beginFormat k s)

/-- FORMAT's judgement (R129). -/
def judgeFormat (sizeCode : Byte) (s : State) : Response × State :=
  if s.engine.state = .halted then refuse .halted s
  else match decodeSizeCode s.memoryCode sizeCode with
    | some k => takeFormat k s
    | none => refuse .badArg s

/-- FORMAT (R129). -/
def execFormat (sizeCode : Byte) (s : State) : Host.Outcome State Fault Refusal :=
  serve (.format sizeCode) (engineCommand (judgeFormat sizeCode)) s

/-- Eight zero words over a copy or a slot (R130, R131). -/
def issueClear (w : Work) (a : Nat) (s : State) : State := issueWrites w a allLanes (List.replicate 8 0) s

/-- FORMAT_ANCHOR_CLEAR: the copy that is not current is cleared first, copy A when there is none (R130). -/
def execFormatAnchorClear (s : State) : Host.Outcome State Fault Refusal :=
  onGrant .formatAnchors (fun s =>
    issueClear (.clearFirst s.engine.anchorTarget.1.other) (s.copyAddress s.engine.anchorTarget.1) s) s

/-- The first copy is cleared: the other follows in the same tenancy (R130). -/
def clearFirstDone (second : Copy) (s : State) : State := issueClear .clearSecond (s.copyAddress second) s

/-- Both copies are cleared: the anchor record is none, and slot 0 is next (R130, R131). -/
def clearSecondDone (s : State) : State :=
  ((endTenancy s).withAnchor none).withExclusive (some (.format (.slot 0)))

/-- The slot FORMAT clears next. -/
def Engine.formatSlot (e : Engine) : Nat :=
  match e.exclusive with
  | some (.format (.slot n)) => n
  | _ => 0

/-- FORMAT_SLOT_CLEAR: eight zero words to one slot (R131). -/
def execFormatSlotClear (s : State) : Host.Outcome State Fault Refusal :=
  onGrant .formatSlot (fun s => issueClear (.clearSlot s.engine.formatSlot) (s.slotAddress s.engine.formatSlot) s) s

/-- A slot is cleared: the STATUS field falls by one; the next slot, or the final tenancy (R131, R132). -/
def clearSlotDone (n : Nat) (s : State) : State :=
  ((endTenancy s).withSteps (s.engine.steps - 1)).withExclusive
    (some (.format (if n + 1 < s.engine.slots then .slot (n + 1) else .final)))

/-- FORMAT's final anchor: FRESH, head slot 0, head sequence 1 (R132). -/
def formatFields : AnchorFields := ⟨.fresh, .keep, 0, 1, 0, 0⟩

/-- FORMAT_FINAL_ANCHOR (R132). -/
def execFormatFinalAnchor (s : State) : Host.Outcome State Fault Refusal :=
  onGrant .formatFinal (fun s => issueAnchor .formatAnchor formatFields s) s

/-- The final anchor write has completed: DISARMED with an empty journal, FORMAT_DONE (R132). -/
def formatDone (s : State) : State :=
  endExclusive (setFlag .formatDone (((anchorWritten (endTenancy s)).withEngineState .disarmed).withSteps 0))

/-- A memory error during FORMAT: UNFORMATTED, no geometry, no anchor record, the in-chip journal empty; the STATUS field
is kept (R133). -/
def formatFailed (s : State) : State :=
  endExclusive (((((setFlag .memoryFault (endTenancy s)).withEngineState .unformatted).withGeometry none).withAnchor
    none).withJournal s.engine.journal.emptied)

/-- The final anchor write has failed: ANCHOR_FAULT as well (R133). -/
def formatAnchorFailed (s : State) : State := formatFailed (setFlag .anchorFault s)

end Sys2Proof.Machine
end

