-- ==== Sys2Proof/WellFormed.lean ====
section
/-!
DEFINITION. Which terms of `Instr` are commands and happenings the spec has. A host request carries 1 to 8 words from a
word address (Table 12-1), and FRAME_UNKNOWN stands for a malformed frame alone (R169). Every other term is well formed:
argument codes out of range are commands too, refused by their owner (R184).
-/
namespace Sys2Proof

/-- The shape of a host request, Table 12-1: 1 to 8 words, the first at a multiple of four. -/
def requestWellFormed (address : Addr) (words : List HostWord) : Bool :=
  decide (1 ≤ words.length) && decide (words.length ≤ 8) && decide (address.toNat % 4 = 0)

/-- The check on a command's operands. -/
def Instr.wellFormed : Instr → Bool
  | .hostAccess _ address words => requestWellFormed address words
  | .frameUnknown code length => malformed code length
  | _ => true

end Sys2Proof
end

