-- ==== Sys2Proof/Machine/Host.lean ====
section
/-!
DEFINITION. The host port: an access taken, a word granted and treated by engine state and mode, the journaled write with its
full policy, and the hold's expiry (chapter 3). The steps that follow a memory answer are here too, as MEMORY_ANSWER calls
them.
-/
namespace Sys2Proof.Machine

/-! ## Taking an access (R49, R50) -/

/-- An IDLE port takes a presented request and begins treating its words; a busy port goes on (R49, R185). -/
def takeIfIdle (s : State) : State := if s.host.current.isNone then takeWords s.host.wordsLeft s else s

/-- A request is presented on the host bus, behind those already there (R185; DESIGN CHOICE, log entry 27). -/
def presentRequest (r : HostRequest) (s : State) : State :=
  takeIfIdle (s.withHost { s.host with presented := s.host.presented ++ [r] })

/-- HOST_ACCESS: a request is presented, and an IDLE host port takes it at once (R49, R50, R185). A held reset takes no
request (R187), and a request out of shape is none (Table 12-1). -/
def execHostAccess (kind : AccessKind) (address : Addr) (words : List HostWord) (s : State) :
    Host.Outcome State Fault Refusal :=
  .next (if !s.control.resetHeld && requestWellFormed address words then presentRequest ⟨kind, address, words⟩ s else s)

/-! ## Forwarding, and the journaled write (sections 3.3 and 3.4) -/

/-- A read is forwarded: one whole-word read (R54). -/
def forwardRead (c : HostAccess) (s : State) : State := issueReads .hostRead c.wordAddress 0 s

/-- A write is forwarded: one write with the host's byte lanes (R55, R57, R59 step 6). -/
def forwardWrite (c : HostAccess) (s : State) : State :=
  issueWrites .hostWrite c.wordAddress c.word.lanes [c.word.data] s

/-- Step 3 of a journaled write: the old value is read (R59). -/
def readOldValue (c : HostAccess) (s : State) : State := issueReads .hostOldValue c.wordAddress 0 s

/-- RELEASE releases the oldest epoch while a second mark stands, else goes on under LOSE (R26, R61); LOSE writes the
anchor FRESH (R27). -/
def releaseOrLose (s : State) : State :=
  if 2 ≤ s.engine.journal.marks.length then issueAnchor .hostRelease (headFields .opened s.engine.action 1 s) s
  else issueAnchor .hostLose (freshFields s) s

/-- Free is below 2: the full policy in force decides (R61). -/
def applyPolicy (s : State) : State :=
  match s.settings.fullPolicy with
  | .stall => holdWord s
  | .refuse => finishWord (.fault .journalFull) s
  | .release => releaseOrLose s
  | .lose => issueAnchor .hostLose (freshFields s) s

/-- Steps 1 and 2 of a journaled write: the lookup in the touched set, then room (R59). -/
def journaledWrite (c : HostAccess) (s : State) : State :=
  if c.wordAddress ∈ s.engine.journal.touched then forwardWrite c s
  else if 2 ≤ s.engine.free then readOldValue c s
  else applyPolicy s

/-- A granted JOURNAL write, by the engine state (R57, R58). No word is granted in RECOVERING or HALTED (R53, R70). -/
def treatJournalWrite (c : HostAccess) (s : State) : State :=
  match s.engine.state with
  | .armed => if s.engine.journal.lapsed then forwardWrite c s else journaledWrite c s
  | .disarmed =>
    if s.engine.journal.fill = 0 then forwardWrite c s else issueAnchor .hostFirstWrite (freshFields s) s
  | .unformatted => forwardWrite c s
  | .formatting => forwardWrite c s
  | .rolling => holdWord s
  | .recovering => holdWord s
  | .broken => finishWord (.fault .brokenWrite) s
  | .halted => finishWord (.fault .powerFail) s

/-- A granted write, by its mode (R55, R56, R57). -/
def treatWrite (m : Mode) (c : HostAccess) (s : State) : State :=
  match m with
  | .pass => forwardWrite c s
  | .journal => treatJournalWrite c s
  | .locked => finishWord (.fault .lockedWrite) s

/-- A granted read: a JOURNAL or LOCKED read is held in ROLLING, every other is forwarded (R54). -/
def treatRead (m : Mode) (c : HostAccess) (s : State) : State :=
  if m ≠ .pass ∧ s.engine.state = .rolling then holdWord s else forwardRead c s

/-- A granted word, by its kind (Table 3-1). -/
def treatWord (m : Mode) (c : HostAccess) (s : State) : State :=
  match c.kind with
  | .read => treatRead m c s
  | .write => treatWrite m c s

/-- The word as granted: GRANTED, with the mode and region the table gives at this moment (R31, R52). -/
def HostAccess.granted (r : Resolution) (c : HostAccess) : HostAccess := { c with phase := .granted, grant := some r }

/-- The grant of the waiting word and its treatment, in one step (R52). -/
def grantWord (s : State) : State :=
  match s.host.current with
  | some c =>
    treatWord (s.regions.resolve c.wordAddress).mode (c.granted (s.regions.resolve c.wordAddress))
      (s.withCurrent (some (c.granted (s.regions.resolve c.wordAddress))))
  | none => s

/-- HOST_TENANCY: the arbiter grants the waiting word (R52, R118; DESIGN CHOICE, log entry 3). -/
def execHostTenancy (s : State) : Host.Outcome State Fault Refusal :=
  .next (if s.grantsHost then grantWord (grantTo .host s) else s)

/-- HOLD_EXPIRY: the hold of a held or waiting word whose time has reached the limit expires; with limit 0 none does (R66;
DESIGN CHOICE, log entry 2). -/
def execHoldExpiry (s : State) : Host.Outcome State Fault Refusal := .next (expireIfReached s)

/-! ## What memory's answers lead to -/

/-- The work goes on with the current word; a tenancy whose word is gone is given back. -/
def withWord (f : HostAccess → State → State) (s : State) : State :=
  match s.host.current with
  | some c => f c s
  | none => endTenancy s

/-- The forwarded read was answered OK: DONE with the word read (R54). -/
def hostReadDone (data : Word) (s : State) : State := finishWord (.done (some data)) s

/-- The forwarded write was answered OK: DONE (R55, R57, R59 step 7). -/
def hostWriteDone (s : State) : State := finishWord (.done none) s

/-- The FRESH anchor of a DISARMED first write was written: the journal is dropped and the write forwarded (R58). -/
def hostFirstWriteDone (s : State) : State :=
  withWord forwardWrite (setFlag .journalDropped (releaseJournal (anchorWritten s)))

/-- LAPSED set, with its two flags (R27). -/
def lapse (s : State) : State :=
  setFlag .journalDropped (setFlag .journalFull (s.withJournal { s.engine.journal with lapsed := true }))

/-- The FRESH anchor of the LOSE policy was written: the journal is dropped, the engine LAPSED, the write forwarded (R27). -/
def hostLoseDone (s : State) : State := withWord forwardWrite (lapse (releaseJournal (anchorWritten s)))

/-- The room check made again after a release: on to the old value, held under ROLLING when a rollback has been taken, else
the next release or LOSE (R26, R97). -/
def roomAgain (c : HostAccess) (s : State) : State :=
  if 2 ≤ s.engine.free then readOldValue c s
  else if s.engine.state = .rolling then holdWord s
  else releaseOrLose s

/-- A release anchor of the RELEASE policy was written (R17, R26). -/
def hostReleaseDone (s : State) : State := withWord roomAgain (releaseEpochs 1 (anchorWritten s))

/-- Step 4 of a journaled write: the UNDO slot write at tail (R59). -/
def writeUndo (old : Word) (c : HostAccess) (s : State) : State :=
  issueSlotWrite .hostUndo s.engine.journal.tail (undoEntry c.wordAddress old s) s

/-- The old value was read (R59). -/
def hostOldValueDone (old : Word) (s : State) : State := withWord (writeUndo old) s

/-- The in-chip advance of a word's UNDO append (R14 steps 1 to 5, R96). -/
def undoAdvance (c : HostAccess) (s : State) : State :=
  s.withJournal (s.engine.journal.appendUndo s.engine.slots c.wordAddress (s.engine.state == .armed))

/-- Steps 5 and 6 of a journaled write: the advance, the UNDO count, the watermark, the forward (R14, R59). An append made
during FREEZE finds the engine ROLLING (R96), and the JOURNAL_HIGH it may offer shows that state, where Table 8-3 has ARMED
alone (DEDUCED, log entry 29). -/
def undoAppended (c : HostAccess) (s : State) : State :=
  forwardWrite c (checkWatermark (countFor .undo c.grant (undoAdvance c s)))

/-- The UNDO slot write has completed (R14, R59). -/
def hostUndoDone (s : State) : State := withWord undoAppended s

/-- A memory error at a host access that is no anchor write (R54, R55, R57, R62 to R64). -/
def hostAccessFailed (s : State) : State := finishWord (.fault .memoryFault) s

/-- A failed anchor write inside a host tenancy: BROKEN, and the word is not forwarded (R17, R58, R61, R127). An exclusive
operation taken meanwhile stays one; that FORMAT, whose state R127 replaces, then goes on in BROKEN is a DESIGN CHOICE (log
entry 31). -/
def hostAnchorFailed (s : State) : State := finishWord (.fault .memoryFault) (anchorFailure s)

end Sys2Proof.Machine
end

