-- ==== Sys2Proof/Machine/Link.lean ====
section
/-!
DEFINITION. The link's own commands and those of the configuration items: STATUS, GET, SET, MARKS_READ, ACK_EVENTS and
RESTART (sections 10.3 to 10.6 and 9.1).
-/
namespace Sys2Proof.Machine

/-! ## STATUS and GET -/

/-- STATUS's judgement: the snapshot (R174). -/
def judgeStatus (s : State) : Response × State := (answerData (statusBytes s), s)

/-- STATUS (R174). -/
def execStatus (s : State) : Host.Outcome State Fault Refusal := serve .status judgeStatus s

/-- The value of a configuration item as GET returns it (Table 10-5, R175, R184). -/
def itemValue (item : Byte) (s : State) : Option Word :=
  match item.toNat with
  | 1 => some (BitVec.ofNat 32 s.settings.fullPolicy.code)
  | 2 => some (BitVec.ofNat 32 s.settings.watermark)
  | 3 => some (BitVec.ofNat 32 s.settings.retainedLimit)
  | 4 => some (BitVec.ofNat 32 s.regions.stagedDefault.code)
  | 5 => some (BitVec.ofNat 32 s.settings.holdLimit)
  | 6 => some (BitVec.ofNat 32 s.settings.timerMode.code)
  | 7 => some (BitVec.ofNat 32 s.settings.timerPeriod)
  | 8 => some (BitVec.ofNat 32 s.settings.lineEdge.code)
  | 9 => some (BitVec.ofNat 32 s.settings.lineFilter.code)
  | 10 => some (s.events.enables.setWidth 32)
  | _ => none

/-- GET's judgement (R175). -/
def judgeGet (item : Byte) (s : State) : Response × State :=
  match itemValue item s with
  | some v => (answerData (bytes32 v), s)
  | none => refuse .badArg s

/-- GET (R175). -/
def execGet (item : Byte) (s : State) : Host.Outcome State Fault Refusal := serve (.get item) (judgeGet item) s

/-! ## SET (R176, R177) -/

/-- The full policy (R23). -/
def setPolicy (p : FullPolicy) (s : State) : State := s.withSettings { s.settings with fullPolicy := p }

/-- The watermark; setting it sets no flag (R22). -/
def setWatermark (n : Nat) (s : State) : State := s.withSettings { s.settings with watermark := n }

/-- The retained limit; the marks retained do not change (R13). -/
def setRetainedLimit (n : Nat) (s : State) : State := s.withSettings { s.settings with retainedLimit := n }

/-- The staged default mode, pending until an installation (R43). -/
def setDefaultMode (m : Mode) (s : State) : State :=
  s.withRegions { s.regions with stagedDefault := m, defaultInstalls := true }

/-- The hold limit, counted at once against a held or waiting word (R66). -/
def setHoldLimit (n : Nat) (s : State) : State := expireIfReached (s.withSettings { s.settings with holdLimit := n })

/-- Whether PERIODIC starts the timer when it is set: ARMED, or ROLLING from an ARMED origin (R83). -/
def Engine.timed (e : Engine) : Bool :=
  match e.state with
  | .armed => true
  | .rolling => (e.rollback.map (·.origin)) == some .armed
  | _ => false

/-- The run state a SET of the timer mode leaves (R83). -/
def timerAfter (m : TimerMode) (s : State) : Option Nat :=
  match m with
  | .periodic => if s.engine.timed then some s.settings.timerPeriod else none
  | .quiet => none
  | .off => none

/-- The timer mode: the timer is stopped, and PERIODIC starts it in its states (R83). -/
def setTimerMode (m : TimerMode) (s : State) : State :=
  (s.withSettings { s.settings with timerMode := m }).withTimer (timerAfter m s)

/-- The timer period: a running timer starts again with it (R83). -/
def setTimerPeriod (n : Nat) (s : State) : State :=
  (s.withSettings { s.settings with timerPeriod := n }).withTimer (s.sources.timer.map fun _ => n)

/-- The line edge selection (R82). -/
def setLineEdge (e : LineEdge) (s : State) : State := s.withSettings { s.settings with lineEdge := e }

/-- The line filter: a candidate that has held its level for the new filter's time becomes a filtered change (R81). -/
def setLineFilter (f : LineFilter) (s : State) : State :=
  changeIfDue (s.withSettings { s.settings with lineFilter := f })

/-- The enable set (R161). -/
def setEnables (x : FlagSet) (s : State) : State := s.withEvents { s.events with enables := x }

/-- A number within an item's range. -/
def inRange (lo hi : Nat) (v : Word) : Option Nat :=
  if lo ≤ v.toNat ∧ v.toNat ≤ hi then some v.toNat else none

/-- What a SET makes of the state, when its item and value name something (Table 10-5, R176, R184). -/
def itemSet (item : Byte) (v : Word) (s : State) : Option State :=
  match item.toNat with
  | 1 => (decodeFullPolicy v.toNat).map (setPolicy · s)
  | 2 => (inRange 0 7 v).map (setWatermark · s)
  | 3 => (inRange 1 16 v).map (setRetainedLimit · s)
  | 4 => (decodeMode v.toNat).map (setDefaultMode · s)
  | 5 => (inRange 0 65535 v).map (setHoldLimit · s)
  | 6 => (decodeTimerMode v.toNat).map (setTimerMode · s)
  | 7 => (inRange 1 65535 v).map (setTimerPeriod · s)
  | 8 => (decodeLineEdge v.toNat).map (setLineEdge · s)
  | 9 => (decodeLineFilter v.toNat).map (setLineFilter · s)
  | 10 => (decodeFlagSet v).map (setEnables · s)
  | _ => none

/-- SET's judgement (R176). -/
def judgeSet (item : Byte) (value : Word) (s : State) : Response × State :=
  match itemSet item value s with
  | some t => (answerOnly .ok, t)
  | none => refuse .badArg s

/-- SET (R176). -/
def execSet (item : Byte) (value : Word) (s : State) : Host.Outcome State Fault Refusal :=
  serve (.set item value) (unlessHalted (judgeSet item value)) s

/-! ## MARKS_READ and ACK_EVENTS -/

/-- MARKS_READ's judgement (R178). -/
def judgeMarksRead (first count : Byte) (s : State) : Response × State :=
  if first.toNat ≤ 15 ∧ 1 ≤ count.toNat ∧ count.toNat ≤ 4 then
    (answerData (marksBytes ((s.engine.journal.marks.drop first.toNat).take count.toNat)), s)
  else refuse .badArg s

/-- MARKS_READ (R178). -/
def execMarksRead (first count : Byte) (s : State) : Host.Outcome State Fault Refusal :=
  serve (.marksRead first count) (judgeMarksRead first count) s

/-- The twelve hit flags cleared (R40). -/
def clearHits (s : State) : State :=
  s.withRegions { s.regions with active := Vector.ofFn fun i => { s.regions.active[i] with hit := false } }

/-- The flags named are cleared, and the hit flags with COMPARE_MATCH (R40, R158). -/
def acknowledge (x : FlagSet) (s : State) : State :=
  if hasFlag x .compareMatch then clearHits (clearFlags x s) else clearFlags x s

/-- ACK_EVENTS's judgement (R158, R184). -/
def judgeAckEvents (set : Word) (s : State) : Response × State :=
  match decodeFlagSet set with
  | some x => (answerOnly .ok, acknowledge x s)
  | none => refuse .badArg s

/-- ACK_EVENTS (R158). -/
def execAckEvents (set : Word) (s : State) : Host.Outcome State Fault Refusal :=
  serve (.ackEvents set) (judgeAckEvents set) s

/-! ## RESTART (R71, R181) -/

/-- A held or waiting word is answered FAULT with this cause (R70, R71). -/
def dropWord (cause : FaultCause) (s : State) : State :=
  match s.host.current with
  | some c => if c.phase = .granted then s else answerWord (.fault cause) s
  | none => s

/-- A restart becomes pending: HALTED is cleared, and a held or waiting word answered RESTART (R181). -/
def takeRestart (s : State) : State :=
  dropWord .restart (s.withControl { s.control with halted := false, restartPending := true })

/-- RESTART's judgement (R181). Sent again while a restart is pending it has no further effect, also when a PFAIL since then
has set HALTED anew (DESIGN CHOICE, log entry 24). -/
def judgeRestart (s : State) : Response × State :=
  if s.control.pfail then refuse .wrongState s
  else if s.control.restartPending then (answerOnly .ok, s)
  else (answerOnly .ok, takeRestart s)

/-- RESTART (R181). -/
def execRestart (s : State) : Host.Outcome State Fault Refusal := serve .restart judgeRestart s

end Sys2Proof.Machine
end

