-- ==== Sys2Proof/Machine/Peek.lean ====
section
/-!
DEFINITION. PEEK, its job and PEEK_READ (section 6.6).
-/
namespace Sys2Proof.Machine

/-- Whether a job is a PEEK job. -/
def Job.isPeek : Job → Bool
  | .peek _ => true
  | _ => false

/-- Whether a PEEK job is running (R116). -/
def State.peekRunning (s : State) : Bool :=
  match s.port.tenancy with
  | some ⟨.peek _ _, _⟩ => true
  | _ => false

/-- Whether PEEK must wait: an exclusive operation running, or a PEEK job queued or running (R121). -/
def State.peekBusy (s : State) : Bool :=
  s.engine.exclusive.isSome || s.engine.jobs.any Job.isPeek || s.peekRunning

/-- PEEK past the state checks: the slot recorded, the buffer PENDING, the job queued (R121). -/
def takePeek (slot : BitVec 16) (s : State) : Response × State :=
  if s.peekBusy then refuse .busy s
  else if s.engine.slots ≤ slot.toNat then refuse .badArg s
  else (answerOnly .accepted, (s.withPeek .pending).withJobs (s.engine.jobs ++ [.peek slot.toNat]))

/-- PEEK's judgement (R121). -/
def judgePeek (slot : BitVec 16) (s : State) : Response × State :=
  match s.engine.state with
  | .halted => refuse .halted s
  | .unformatted => refuse .notFormatted s
  | .recovering => refuse .busy s
  | .formatting => refuse .busy s
  | .rolling => refuse .busy s
  | .armed => takePeek slot s
  | .disarmed => takePeek slot s
  | .broken => takePeek slot s

/-- PEEK (R121). -/
def execPeek (slot : BitVec 16) (s : State) : Host.Outcome State Fault Refusal :=
  serve (.peek slot) (engineCommand (judgePeek slot)) s

/-- The slot the first job asks to read. -/
def Engine.peekSlot (e : Engine) : Nat :=
  match e.jobs with
  | .peek n :: _ => n
  | _ => 0

/-- RETAINED: the slot lies among the fill slots counted from head (R122). -/
def Engine.retainsSlot (e : Engine) (slot : Nat) : Bool :=
  decide (slotsFrom e.slots e.journal.head slot < e.journal.fill)

/-- PEEK_JOB: the position indication is recorded, and the slot read (R122). -/
def execPeekJob (s : State) : Host.Outcome State Fault Refusal :=
  onGrant .peek (fun s =>
    issueSlotRead (.peek s.engine.peekSlot (s.engine.retainsSlot s.engine.peekSlot)) s.engine.peekSlot (dequeueJob s)) s

/-- The end of a PEEK job: the buffer READY with this result, PEEK_DONE (R122). -/
def finishPeek (r : PeekResult) (s : State) : State :=
  setFlag .peekDone ((endTenancy s).withPeek (.ready r))

/-- Every word of the slot read was answered OK (R122). -/
def peekDone (slot : Nat) (retained : Bool) (ws : List Word) (s : State) : State :=
  finishPeek ⟨slot, if (parseEntry ws).isSome then .valid else .invalid, retained, ws⟩ s

/-- A word of the slot read was answered ERROR (R122). -/
def peekFailed (slot : Nat) (retained : Bool) (s : State) : State :=
  finishPeek ⟨slot, .readError, retained, List.replicate 8 0⟩ (setFlag .memoryFault s)

/-- PEEK_READ's judgement (R123). -/
def judgePeekRead (s : State) : Response × State :=
  match s.engine.peek with
  | .ready r => (answerData (peekBytes r), s)
  | .empty => refuse .notReady s
  | .pending => refuse .notReady s

/-- PEEK_READ (R123). -/
def execPeekRead (s : State) : Host.Outcome State Fault Refusal := serve .peekRead judgePeekRead s

end Sys2Proof.Machine
end

