-- ==== Sys2Proof/Machine/Rollback.lean ====
section
/-!
DEFINITION. Rollback: the command, the ANCHOR tenancy, restore steps and the SETTLE tenancy, and a rollback's end in BROKEN
(chapter 5).
-/
namespace Sys2Proof.Machine

/-- Whether the host tenancy in progress is making a release or a whole-journal release: its anchor write is issued and
not answered (R94). -/
def State.hostReleasing (s : State) : Bool :=
  match s.port.tenancy with
  | some ⟨.hostFirstWrite, _⟩ => true
  | some ⟨.hostRelease, _⟩ => true
  | some ⟨.hostLose, _⟩ => true
  | _ => false

/-- The slots from the slot after the target up to tail − 1 (R95, R98). -/
def Engine.stepsTo (e : Engine) (target : Nat) : Nat := slotsFrom e.slots (slotAfter e.slots target) e.journal.tail

/-- The rollback record made for a target (R95, R110). Position and expected sequence are those of tail − 1 as they stand at
the taking of the command, where R98 gives them values only at the ANCHOR grant (`fixRange`: DESIGN CHOICE, log entry 30; for
recovery log entry 16). -/
def Engine.recordTo (e : Engine) (origin : RollbackOrigin) (phase : RollbackPhase) (m : MarkElement) : RollbackRecord where
  origin := origin
  targetSlot := m.slot
  targetSequence := m.sequence
  targetEpoch := m.epoch
  phase := phase
  position := slotBefore e.slots e.journal.tail
  expected := e.journal.newestSequence

/-- The engine enters ROLLING with a record: the touched set is emptied as it leaves ARMED, and steps remaining counts the
slots after the target (R95, R96, R110). -/
def beginRolling (origin : RollbackOrigin) (phase : RollbackPhase) (m : MarkElement) (s : State) : State :=
  s.withEngine { s.engine with
    state := .rolling
    rollback := some (s.engine.recordTo origin phase m)
    steps := s.engine.stepsTo m.slot
    journal := { s.engine.journal with touched := [] } }

/-- ROLLBACK past the state checks: the target is the element d places from the newest (R94, R95). -/
def takeRollback (origin : RollbackOrigin) (depth : Byte) (s : State) : Response × State :=
  if depth.toNat < 1 ∨ s.engine.journal.marks.length < depth.toNat then refuse .badArg s
  else match s.engine.journal.marks[s.engine.journal.marks.length - depth.toNat]? with
    | some m => (answerOnly .accepted, (beginRolling origin .freeze m s).withExclusive (some .rollback))
    | none => refuse .badArg s

/-- ROLLBACK's judgement (R94). -/
def judgeRollback (depth : Byte) (s : State) : Response × State :=
  match s.engine.state with
  | .halted => refuse .halted s
  | .unformatted => refuse .notFormatted s
  | .rolling => refuse .busy s
  | .recovering => refuse .busy s
  | .formatting => refuse .busy s
  | .broken => if s.engineOccupied || s.hostReleasing then refuse .busy s else refuse .wrongState s
  | .armed =>
    if s.engineOccupied || s.hostReleasing then refuse .busy s
    else if s.engine.journal.lapsed then refuse .wrongState s
    else takeRollback .armed depth s
  | .disarmed =>
    if s.engineOccupied || s.hostReleasing then refuse .busy s
    else if s.engine.journal.fill = 0 then refuse .wrongState s
    else takeRollback .disarmed depth s

/-- ROLLBACK (R94). -/
def execRollback (depth : Byte) (s : State) : Host.Outcome State Fault Refusal :=
  serve (.rollback depth) (engineCommand (judgeRollback depth)) s

/-- The restart action a rollback's anchors carry: the arming's from an ARMED origin, else KEEP (R98, R102; for the
BROKEN anchor DEDUCED, log entry 7). -/
def rollbackAction (r : RollbackRecord) (s : State) : RestartAction :=
  match r.origin with
  | .armed => s.engine.action
  | .disarmed => .keep
  | .recovery => .keep

/-- The ROLLING and BROKEN anchors of a rollback: head and epoch counter as they stand, the target's sequence (R98, R104). -/
def rollbackFields (st : AnchorState) (r : RollbackRecord) (s : State) : AnchorFields :=
  { headFields st (rollbackAction r s) 0 s with targetSequence := r.targetSequence }

/-- The record at the grant of the ANCHOR tenancy: the restore range fixed from the tail then standing (R98). -/
def fixRange (r : RollbackRecord) (s : State) : State :=
  (s.withRollback (some { r with
    phase := .anchor
    position := slotBefore s.engine.slots s.engine.journal.tail
    expected := s.engine.journal.newestSequence })).withSteps (s.engine.stepsTo r.targetSlot)

/-- ROLLBACK_ANCHOR: the range is fixed and the anchor written ROLLING (R98). -/
def execRollbackAnchor (s : State) : Host.Outcome State Fault Refusal :=
  onGrant .rollbackAnchor (fun s =>
    match s.engine.rollback with
    | some r => issueAnchor .rollbackAnchor (rollbackFields .rolling r s) (fixRange r s)
    | none => s) s

/-- The phase that follows with this many steps remaining (R98, R100, R110). -/
def phaseFor (steps : Nat) : RollbackPhase := if steps = 0 then .settle else .restore

/-- The ROLLING anchor write has completed (R98). -/
def rollbackAnchorDone (s : State) : State :=
  match s.engine.rollback with
  | some r => (anchorWritten (endTenancy s)).withRollback (some { r with phase := phaseFor s.engine.steps })
  | none => endTenancy s

/-- A rollback fails: its flag having been set, the anchor is written BROKEN in the same tenancy, and the engine is ROLLING
until that write is answered: R104's order, against the last sentence of R165 (DESIGN CHOICE, log entry 26). -/
def rollbackFails (s : State) : State :=
  match s.engine.rollback with
  | some r => issueAnchor .brokenAnchor (rollbackFields .broken r s) s
  | none => endTenancy s

/-- A memory error at a slot or restore access of a rollback (R99 to R101, R104). -/
def rollbackMemoryFailed (s : State) : State := rollbackFails (setFlag .memoryFault s)

/-- A memory error at an anchor write of a rollback (R98, R102, R104). -/
def rollbackAnchorFailed (s : State) : State := rollbackFails (setFlag .anchorFault (setFlag .memoryFault s))

/-- A rollback's end for whoever ran it: the exclusive operation ends, or recovery does (R102, R104, R140). Recovery's end
sets RECOVERY_DONE also when the part was halted during the last tenancy (DESIGN CHOICE, log entry 23). -/
def endRollback (origin : RollbackOrigin) (s : State) : State :=
  match origin with
  | .armed => endExclusive s
  | .disarmed => endExclusive s
  | .recovery => endRecovery s

/-- The host port is told of a rollback's end; after a recovery rollback that is the end of recovery (R102, R104, R140). -/
def wakeUnlessRecovery (origin : RollbackOrigin) (s : State) : State :=
  match origin with
  | .armed => wake s
  | .disarmed => wake s
  | .recovery => s

/-- The rollback ends in BROKEN, whether or not the BROKEN anchor was written; steps remaining is kept (R104). -/
def rollbackBroken (s : State) : State :=
  match s.engine.rollback with
  | some r =>
    endRollback r.origin (offer { cause := .rollbackEnd } (wakeUnlessRecovery r.origin
      (((((endTenancy s).withJournal s.engine.journal.emptied).withEngineState .broken).withTimer none).withRollback none)))
  | none => endTenancy s

/-- The BROKEN anchor write has completed (R104). -/
def brokenAnchorDone (s : State) : State := rollbackBroken (anchorWritten s)

/-- The BROKEN anchor write has failed (R104). -/
def brokenAnchorFailed (s : State) : State := rollbackBroken (setFlag .anchorFault s)

/-- RESTORE_STEP: the slot at the restore position is read (R99). -/
def execRestoreStep (s : State) : Host.Outcome State Fault Refusal :=
  onGrant .restoreStep (fun s =>
    match s.engine.rollback with
    | some r => issueSlotRead .restoreRead r.position s
    | none => s) s

/-- The mark list element of a slot. -/
def Journal.markAt (j : Journal) (slot : Nat) : Option MarkElement := j.marks.find? fun m => m.slot == slot

/-- Check 3 of a restore step: a MARK exactly at a mark list slot, carrying that element's sequence and epoch, its third
word its epoch (R99). -/
def markCheck (j : Journal) (slot : Nat) (e : Entry) : Bool :=
  match e.kind, j.markAt slot with
  | .mark, some m => e.sequence == m.sequence && e.epoch == m.epoch && e.third == e.epoch
  | .undo, none => true
  | _, _ => false

/-- The epoch of the nearest mark at or before a slot, counted from head (R99 check 4). -/
def Engine.epochAt (e : Engine) (slot : Nat) : Option Word :=
  ((e.journal.marks.filter fun m =>
    decide (slotsFrom e.slots e.journal.head m.slot ≤ slotsFrom e.slots e.journal.head slot)).getLast?).map (·.epoch)

/-- Check 5 of a restore step: an UNDO's address is a multiple of four inside the data space in force (R99). -/
def addressCheck (s : State) (e : Entry) : Bool :=
  match e.kind with
  | .undo => decide (e.third.toNat % 4 = 0) && s.inDataSpace e.third.toNat
  | _ => true

/-- The checks of a restore step on a valid entry (R99). -/
def restoreChecks (r : RollbackRecord) (s : State) (e : Entry) : Bool :=
  e.kind != .void && e.sequence == r.expected && markCheck s.engine.journal r.position e &&
    s.engine.epochAt r.position == some e.epoch && addressCheck s e &&
    (s.engine.steps != 1 || e.link == r.targetSequence)

/-- A restore step completes: the expected sequence takes the entry's link, the position moves to the slot before, steps
remaining falls by one (R99, R100). -/
def restoreComplete (link : Word) (s : State) : State :=
  match s.engine.rollback with
  | some r =>
    ((endTenancy s).withSteps (s.engine.steps - 1)).withRollback (some { r with
      expected := link
      position := slotBefore s.engine.slots r.position
      phase := phaseFor (s.engine.steps - 1) })
  | none => endTenancy s

/-- A restore step's action: an UNDO's old data is written back with all four lanes, a MARK passed over (R100). -/
def restoreAction (e : Entry) (s : State) : State :=
  match e.kind with
  | .undo => issueWrites (.restoreWrite e.link) e.third.toNat allLanes [e.fourth] s
  | _ => restoreComplete e.link s

/-- The restore step's slot read has completed: its checks, then its action or damage (R99, R100, R104). -/
def restoreReadDone (ws : List Word) (s : State) : State :=
  match s.engine.rollback, parseEntry ws with
  | some r, some e =>
    if restoreChecks r s e then restoreAction e s else rollbackFails (setFlag .journalDamaged s)
  | some _, none => rollbackFails (setFlag .journalDamaged s)
  | none, _ => endTenancy s

/-- The VOID entry of a settlement (R5, R101). -/
def voidEntry (r : RollbackRecord) (s : State) : Entry where
  kind := .void
  sequence := s.engine.journal.nextSequence
  link := r.targetSequence
  third := 0
  fourth := 0
  epoch := r.targetEpoch
  stamp := s.sources.stamp

/-- The settle anchor: OPEN from an ARMED origin, else IDLE; the target's epoch as the epoch counter (R102). -/
def settleFields (r : RollbackRecord) (s : State) : AnchorFields :=
  { headFields (if r.origin = .armed then .opened else .idle) (rollbackAction r s) 0 s with epoch := r.targetEpoch }

/-- The settle anchor write (R102). -/
def settleAnchorStep (r : RollbackRecord) (s : State) : State := issueAnchor .settleAnchor (settleFields r s) s

/-- SETTLE: the VOID in the slot after the target, or, when that slot is head, the settle anchor directly (R101). -/
def execSettle (s : State) : Host.Outcome State Fault Refusal :=
  onGrant .settle (fun s =>
    match s.engine.rollback with
    | some r =>
      if slotAfter s.engine.slots r.targetSlot = s.engine.journal.head then settleAnchorStep r s
      else issueSlotWrite .settleVoid (slotAfter s.engine.slots r.targetSlot) (voidEntry r s) s
    | none => s) s

/-- The VOID slot write has completed (R102). -/
def settleVoidDone (s : State) : State :=
  match s.engine.rollback with
  | some r => settleAnchorStep r s
  | none => endTenancy s

/-- The mark list cut after the target (R102). -/
def cutMarks (slot : Nat) : List MarkElement → List MarkElement
  | [] => []
  | m :: ms => if m.slot = slot then [m] else m :: cutMarks slot ms

/-- The in-chip journal cut back to the target (R102 steps 1 to 5). -/
def Journal.cutTo (slots : Nat) (r : RollbackRecord) (j : Journal) : Journal :=
  { j with
    tail := slotAfter slots r.targetSlot
    fill := slotsFrom slots j.head r.targetSlot + 1
    newestSequence := r.targetSequence
    epoch := r.targetEpoch
    marks := cutMarks r.targetSlot j.marks
    touched := [] }

/-- The state a settled rollback returns to (R102). -/
def RollbackOrigin.settledState : RollbackOrigin → EngineState
  | .armed => .armed
  | .disarmed => .disarmed
  | .recovery => .disarmed

/-- The settlement, once the settle anchor write has completed (R102). -/
def settleAnchorDone (s : State) : State :=
  match s.engine.rollback with
  | some r =>
    endRollback r.origin (offer { cause := .rollbackEnd } (setFlag .rollbackDone (wakeUnlessRecovery r.origin
      (stopQuietTimer (((((anchorWritten (endTenancy s)).withJournal (s.engine.journal.cutTo s.engine.slots r)).withEngineState
        r.origin.settledState).withRollback none).withSteps 0)))))
  | none => endTenancy s

end Sys2Proof.Machine
end

