-- ==== Sys2Proof/Machine/Recovery.lean ====
section
/-!
DEFINITION. Recovery: the anchor reads and the choice, the scan, its outcomes (section 7.4).
-/
namespace Sys2Proof.Machine

/-- RECOVERY_ANCHOR_READ: copy A, then copy B (R135). -/
def execRecoveryAnchorRead (s : State) : Host.Outcome State Fault Refusal :=
  onGrant .recoveryRead (fun s =>
    match s.engine.recovery with
    | some .copyA => issueReads .readCopyA (s.copyAddress .a) 7 s
    | some (.copyB a) => issueReads (.readCopyB a) (s.copyAddress .b) 7 s
    | _ => s) s

/-- What the words of a copy read are judged to be (R125, R135). -/
def readingOf (s : State) (ws : List Word) : CopyReading :=
  match parseAnchor s.memoryCode ws with
  | some c => .valid c
  | none => .invalid

/-- Copy A has been read: copy B is next (R135). -/
def copyARead (a : CopyReading) (s : State) : State := (endTenancy s).withRecovery (some (.copyB a))

/-- The outcome of the anchor reads (R125, R135). -/
inductive AnchorChoice where
  | current (copy : Copy) (fields : AnchorCopy)
  | broken (copy : Copy) (fields : AnchorCopy)
  | none
  deriving DecidableEq, Repr

/-- The choice: the serially later generation of two valid copies, A when neither is later; the one valid copy beside an
invalid one; BROKEN under a valid copy beside an unreadable one; else none (R125, R135). -/
def chooseAnchor : CopyReading → CopyReading → AnchorChoice
  | .valid a, .valid b => if later b.generation a.generation then .current .b b else .current .a a
  | .valid a, .invalid => .current .a a
  | .invalid, .valid b => .current .b b
  | .unreadable, .valid b => .broken .b b
  | .valid a, .unreadable => .broken .a a
  | _, _ => .none

/-- The geometry in force and the anchor record take the chosen copy (R135). -/
def adoptAnchor (copy : Copy) (f : AnchorCopy) (s : State) : State :=
  (s.withGeometry (some f.sizeCode)).withAnchor (some (copy, f.generation))

/-- The empty journal a FRESH anchor gives (R136). -/
def freshJournal (f : AnchorCopy) : Journal where
  head := f.headSlot
  tail := f.headSlot
  fill := 0
  nextSequence := f.headSequence
  newestSequence := f.headSequence - 1
  epoch := f.epoch
  marks := []
  touched := []
  lapsed := false

/-- Recovery ends in BROKEN with the in-chip journal empty (R128, R136, R137, R139). -/
def recoveryBroken (s : State) : State :=
  endRecovery ((s.withJournal s.engine.journal.emptied).withEngineState .broken)

/-- Recovery acts on the current anchor's state (R136). -/
def recoveryDecision (f : AnchorCopy) (s : State) : State :=
  match f.state with
  | .broken => recoveryBroken s
  | .fresh => endRecovery ((s.withJournal (freshJournal f)).withEngineState .disarmed)
  | .opened => s.withRecovery (some (.scan f f.headSlot))
  | .idle => s.withRecovery (some (.scan f f.headSlot))
  | .rolling => s.withRecovery (some (.scan f f.headSlot))

/-- After both reads: the choice and what it leads to (R135, R136). -/
def anchorsRead (a b : CopyReading) (s : State) : State :=
  match chooseAnchor a b with
  | .current copy f => recoveryDecision f (adoptAnchor copy f s)
  | .broken copy f => recoveryBroken (adoptAnchor copy f s)
  | .none => endRecovery (((s.withGeometry none).withAnchor none).withEngineState .unformatted)

/-- Copy B has been read (R135). -/
def copyBRead (a b : CopyReading) (s : State) : State := anchorsRead a b (endTenancy s)

/-- SCAN_STEP: the slot the scan stands at is read (R137). -/
def execScanStep (s : State) : Host.Outcome State Fault Refusal :=
  onGrant .scan (fun s =>
    match s.engine.recovery with
    | some (.scan f slot) => issueSlotRead (.scan f slot) slot s
    | _ => s) s

/-- Whether the head slot's entry is accepted (R137). -/
def headAccepted (f : AnchorCopy) (e : Entry) : Bool :=
  e.kind == .mark && e.sequence == f.headSequence && e.third == e.epoch

/-- Whether an entry's epoch continues the scan: an UNDO in the newest mark's epoch, a MARK of the next with room in the
mark list (R137). -/
def epochFollows (j : Journal) (e : Entry) : Bool :=
  match e.kind with
  | .undo => e.epoch == j.epoch
  | .mark => e.epoch == j.epoch + 1 && e.third == j.epoch + 1 && decide (j.marks.length < Config.markCapacity)
  | .void => false

/-- Whether a following slot's entry is accepted (R137). -/
def entryFollows (j : Journal) (e : Entry) : Bool :=
  epochFollows j e && e.link == j.newestSequence && later e.sequence j.newestSequence

/-- The in-chip journal with one more accepted entry (R137, R138): the figures rebuilt so far (R134; DEDUCED, log entry 8). -/
def Journal.accept (slots slot : Nat) (e : Entry) (j : Journal) : Journal :=
  { j with
    head := if j.fill = 0 then slot else j.head
    tail := slotAfter slots slot
    fill := j.fill + 1
    newestSequence := e.sequence
    epoch := e.epoch
    marks := if e.kind = .mark then j.marks ++ [⟨slot, e.sequence, e.epoch, e.fourth.setWidth 5, e.stamp⟩] else j.marks }

/-- The rollback recovery starts or resumes (R110, R139): part of recovery, not an exclusive operation. -/
def beginRecoveryRollback (phase : RollbackPhase) (m : MarkElement) (s : State) : State :=
  (beginRolling .recovery phase m s).withRecovery none

/-- Recovery ends DISARMED with what the scan rebuilt (R139). -/
def recoveryDisarmed (s : State) : State := endRecovery (s.withEngineState .disarmed)

/-- A ROLLING anchor: the rollback to the mark of its target sequence resumes, or BROKEN when no mark has it (R110, R139). -/
def resumeRolling (f : AnchorCopy) (s : State) : State :=
  match s.engine.journal.marks.find? fun m => m.sequence == f.targetSequence with
  | some m => beginRecoveryRollback (phaseFor (s.engine.stepsTo m.slot)) m s
  | none => recoveryBroken s

/-- OPEN with REVERT: a rollback to the newest mark (R139). -/
def revertToNewest (s : State) : State :=
  match s.engine.journal.marks.getLast? with
  | some m => beginRecoveryRollback .anchor m s
  | none => recoveryBroken s

/-- The outcome after the scan, by the current anchor (R139). A FRESH or BROKEN anchor leads to no scan (R136). -/
def recoveryOutcome (f : AnchorCopy) (s : State) : State :=
  match f.state, f.action with
  | .idle, _ => recoveryDisarmed s
  | .opened, .keep => recoveryDisarmed s
  | .opened, .revert => revertToNewest s
  | .rolling, _ => resumeRolling f s
  | .fresh, _ => recoveryDisarmed s
  | .broken, _ => recoveryBroken s

/-- A completed scan: the next sequence, with the touched set empty and LAPSED clear (R138). -/
def scanComplete (f : AnchorCopy) (next : Word) (s : State) : State :=
  recoveryOutcome f (s.withJournal { s.engine.journal with nextSequence := next, touched := [], lapsed := false })

/-- The next sequence at a stopping slot: a VOID's, when it is valid, linked to the last accepted entry and serially later;
else the last accepted sequence + 1 (R138). -/
def nextAfterScan (j : Journal) (ws : List Word) : Word :=
  match parseEntry ws with
  | some e =>
    if e.kind = .void ∧ e.link = j.newestSequence ∧ later e.sequence j.newestSequence then e.sequence
    else j.newestSequence + 1
  | none => j.newestSequence + 1

/-- An entry is accepted: the scan goes on with the slot after it, or is complete when S entries are accepted (R137). -/
def scanAccept (f : AnchorCopy) (slot : Nat) (e : Entry) (s : State) : State :=
  if s.engine.journal.fill + 1 < s.engine.slots then
    (s.withJournal (s.engine.journal.accept s.engine.slots slot e)).withRecovery
      (some (.scan f (slotAfter s.engine.slots slot)))
  else scanComplete f (e.sequence + 1) (s.withJournal (s.engine.journal.accept s.engine.slots slot e))

/-- The head slot has been read (R137). -/
def scanHead (f : AnchorCopy) (slot : Nat) (ws : List Word) (s : State) : State :=
  match parseEntry ws with
  | some e => if headAccepted f e then scanAccept f slot e s else recoveryBroken s
  | none => recoveryBroken s

/-- A following slot has been read (R137). -/
def scanNext (f : AnchorCopy) (slot : Nat) (ws : List Word) (s : State) : State :=
  match parseEntry ws with
  | some e =>
    if entryFollows s.engine.journal e then scanAccept f slot e s
    else scanComplete f (nextAfterScan s.engine.journal ws) s
  | none => scanComplete f (nextAfterScan s.engine.journal ws) s

/-- A scan read has completed: of the head slot while nothing is accepted, else of a following slot (R137). -/
def scanDone (f : AnchorCopy) (slot : Nat) (ws : List Word) (s : State) : State :=
  if s.engine.journal.fill = 0 then scanHead f slot ws (endTenancy s) else scanNext f slot ws (endTenancy s)

/-- A scan read has failed: MEMORY_FAULT and BROKEN (R137). -/
def scanFailed (s : State) : State := recoveryBroken (setFlag .memoryFault (endTenancy s))

end Sys2Proof.Machine
end

