-- ==== Sys2Proof/Machine/Release.lean ====
section
/-!
DEFINITION. RELEASE and DISCARD and their tenancies (R19, R21).
-/
namespace Sys2Proof.Machine

/-- Whether a job is a RELEASE job. -/
def Job.isRelease : Job → Bool
  | .release _ => true
  | _ => false

/-- Whether RELEASE must wait: an exclusive operation running or a RELEASE job already queued (R19). -/
def Engine.releaseBusy (e : Engine) : Bool := e.exclusive.isSome || e.jobs.any Job.isRelease

/-- RELEASE's judgement (R19). -/
def judgeRelease (n : Byte) (s : State) : Response × State :=
  if n.toNat < 1 ∨ 16 < n.toNat then refuse .badArg s
  else match s.engine.state with
    | .unformatted => refuse .notFormatted s
    | .formatting => refuse .busy s
    | .rolling => refuse .busy s
    | .recovering => refuse .busy s
    | .halted => refuse .halted s
    | .broken => if s.engine.releaseBusy then refuse .busy s else refuse .wrongState s
    | .armed =>
      if s.engine.releaseBusy then refuse .busy s
      else (answerOnly .accepted, s.withJobs (s.engine.jobs ++ [.release n.toNat]))
    | .disarmed =>
      if s.engine.releaseBusy then refuse .busy s
      else (answerOnly .accepted, s.withJobs (s.engine.jobs ++ [.release n.toNat]))

/-- RELEASE (R19). -/
def execRelease (n : Byte) (s : State) : Host.Outcome State Fault Refusal :=
  serve (.release n) (engineCommand (judgeRelease n)) s

/-- The count the first job asks to release. -/
def Engine.releaseAsked (e : Engine) : Nat :=
  match e.jobs with
  | .release n :: _ => n
  | _ => 0

/-- r: the lesser of n and the mark count less one, 0 for an empty list (R19). -/
def Engine.releaseCount (e : Engine) : Nat := min e.releaseAsked (e.journal.marks.length - 1)

/-- RELEASE_JOB: nothing in BROKEN; done at once when r is 0; else one release anchor write (R19). -/
def execReleaseJob (s : State) : Host.Outcome State Fault Refusal :=
  onGrant .release (fun s =>
    if s.engine.state = .broken then dequeueJob s
    else if s.engine.releaseCount = 0 then setFlag .releaseDone (dequeueJob s)
    else issueAnchor (.release s.engine.releaseCount) (releaseFields s.engine.releaseCount s) (dequeueJob s)) s

/-- The release anchor write of a RELEASE job has completed (R19). -/
def releaseJobDone (count : Nat) (s : State) : State :=
  setFlag .releaseDone (releaseEpochs count (anchorWritten (endTenancy s)))

/-- The release anchor write of a RELEASE job has failed (R17, R19). -/
def releaseJobFailed (s : State) : State := endTenancy (anchorFailure s)

/-- DISCARD's judgement (R21). -/
def judgeDiscard (s : State) : Response × State :=
  match s.engine.state with
  | .unformatted => refuse .notFormatted s
  | .formatting => refuse .busy s
  | .rolling => refuse .busy s
  | .recovering => refuse .busy s
  | .halted => refuse .halted s
  | .armed => if s.engineOccupied then refuse .busy s else refuse .wrongState s
  | .broken => if s.engineOccupied then refuse .busy s else refuse .wrongState s
  | .disarmed =>
    if s.engineOccupied then refuse .busy s
    else if s.engine.journal.fill = 0 then (answerOnly .ok, setFlag .releaseDone s)
    else (answerOnly .accepted, s.withExclusive (some .discard))

/-- DISCARD (R21). -/
def execDiscard (s : State) : Host.Outcome State Fault Refusal := serve .discard (engineCommand judgeDiscard) s

/-- DISCARD_TENANCY: it reads the engine at its grant, and ends at once when the engine is BROKEN or the journal has been
emptied meanwhile; else the FRESH anchor write (R21). -/
def execDiscardTenancy (s : State) : Host.Outcome State Fault Refusal :=
  onGrant .discard (fun s =>
    if s.engine.state = .broken then endExclusive s
    else if s.engine.journal.fill = 0 then endExclusive (setFlag .releaseDone s)
    else issueAnchor .discard (freshFields s) s) s

/-- The FRESH anchor write of DISCARD has completed (R20, R21). -/
def discardDone (s : State) : State :=
  endExclusive (setFlag .releaseDone (releaseJournal (anchorWritten (endTenancy s))))

/-- The FRESH anchor write of DISCARD has failed (R20). -/
def discardFailed (s : State) : State := endExclusive (endTenancy (anchorFailure s))

end Sys2Proof.Machine
end

