-- ==== Sys2Proof/Machine/MemoryAnswer.lean ====
section
/-!
DEFINITION. MEMORY_ANSWER: the memory answers the access in progress, and the rule of the step it belongs to issues the next
access or completes or fails the work (R112, R113, R119). What each step's end does is defined beside its tenancy.
-/
namespace Sys2Proof.Machine

/-- Every access of the step was answered OK, the words read being these (R119). -/
def completeWork (w : Work) (ws : List Word) (s : State) : State :=
  match w with
  | .hostRead => hostReadDone (ws.headD 0) s
  | .hostWrite => hostWriteDone s
  | .hostFirstWrite => hostFirstWriteDone s
  | .hostRelease => hostReleaseDone s
  | .hostLose => hostLoseDone s
  | .hostOldValue => hostOldValueDone (ws.headD 0) s
  | .hostUndo => hostUndoDone s
  | .markRoom sources limit => markRoomDone sources limit s
  | .markAppend sources limit stamp => markAppendDone sources limit stamp s
  | .markLapseEnd sources limit => markLapseEndDone sources limit s
  | .markLimit sources count => markLimitDone sources count s
  | .armRoom action limit => armRoomDone action limit s
  | .armAppend action limit stamp => armAppendDone action limit stamp s
  | .armAnchor action count => armAnchorDone action count s
  | .disarm fresh => disarmDone fresh s
  | .release count => releaseJobDone count s
  | .discard => discardDone s
  | .rollbackAnchor => rollbackAnchorDone s
  | .restoreRead => restoreReadDone ws s
  | .restoreWrite link => restoreComplete link s
  | .settleVoid => settleVoidDone s
  | .settleAnchor => settleAnchorDone s
  | .brokenAnchor => brokenAnchorDone s
  | .clearFirst second => clearFirstDone second s
  | .clearSecond => clearSecondDone s
  | .clearSlot slot => clearSlotDone slot s
  | .formatAnchor => formatDone s
  | .readCopyA => copyARead (readingOf s ws) s
  | .readCopyB a => copyBRead a (readingOf s ws) s
  | .scan anchor slot => scanDone anchor slot ws s
  | .peek slot retained => peekDone slot retained ws s

/-- An access of the step was answered ERROR: the accesses after it are not issued, and the owning rule gives the
consequence (R119). -/
def failWork (w : Work) (s : State) : State :=
  match w with
  | .hostRead => hostAccessFailed s
  | .hostWrite => hostAccessFailed s
  | .hostFirstWrite => hostAnchorFailed s
  | .hostRelease => hostAnchorFailed s
  | .hostLose => hostAnchorFailed s
  | .hostOldValue => hostAccessFailed s
  | .hostUndo => hostAccessFailed s
  | .markRoom _ _ => markAnchorFailed s
  | .markAppend _ _ _ => markAppendFailed s
  | .markLapseEnd _ _ => markAnchorFailed s
  | .markLimit _ _ => markAnchorFailed s
  | .armRoom _ _ => armAnchorFailed s
  | .armAppend _ _ _ => armAppendFailed s
  | .armAnchor _ _ => armAnchorFailed s
  | .disarm _ => disarmFailed s
  | .release _ => releaseJobFailed s
  | .discard => discardFailed s
  | .rollbackAnchor => rollbackAnchorFailed s
  | .restoreRead => rollbackMemoryFailed s
  | .restoreWrite _ => rollbackMemoryFailed s
  | .settleVoid => rollbackMemoryFailed s
  | .settleAnchor => rollbackAnchorFailed s
  | .brokenAnchor => brokenAnchorFailed s
  | .clearFirst _ => formatFailed s
  | .clearSecond => formatFailed s
  | .clearSlot _ => formatFailed s
  | .formatAnchor => formatAnchorFailed s
  | .readCopyA => copyARead .unreadable (setFlag .memoryFault s)
  | .readCopyB a => copyBRead a .unreadable (setFlag .memoryFault s)
  | .scan _ _ => scanFailed s
  | .peek slot retained => peekFailed slot retained s

/-- The access was answered OK: the next access of the run is issued at the next word address, or the step is complete
(R112, R119). -/
def accessAnswered (t : Tenancy) (data : Word) (s : State) : State :=
  match t.transfer with
  | .write a lanes _ (x :: rest) => s.withTenancy (some ⟨t.work, .write (a + 4) lanes x rest⟩)
  | .write _ _ _ [] => completeWork t.work [] s
  | .read a (more + 1) got => s.withTenancy (some ⟨t.work, .read (a + 4) more (got ++ [data])⟩)
  | .read _ 0 got => completeWork t.work (got ++ [data]) s

/-- MEMORY_ANSWER: OK with the word read, or ERROR, whose data is not used (R119). With no access issued nothing is
answered (DESIGN CHOICE, log entry 3). -/
def execMemoryAnswer (ok : Bool) (data : Word) (s : State) : Host.Outcome State Fault Refusal :=
  .next (match s.port.tenancy with
    | some t => if ok then accessAnswered t data s else failWork t.work s
    | none => s)

end Sys2Proof.Machine
end

