-- ==== Sys2Proof/Machine/Power.lean ====
section
/-!
DEFINITION. The power-fail monitor, the halt, the restart and the resets (sections 7.5, 10.6 and 12.3).
-/
namespace Sys2Proof.Machine

/-- HALTED set by an assertion that finds it clear: a held or waiting word is answered POWER_FAIL (R70, R141). The records
and answers made here show the engine state before the halt, which ENTER_HALTED then makes HALTED (DESIGN CHOICE, log entry
25; R154, R141). -/
def haltPart (s : State) : State :=
  if s.control.halted then s else dropWord .powerFail (s.withControl { s.control with halted := true })

/-- An assertion of PFAIL is taken: the level, the flag, the offer, and the halt when HALTED was clear (R141). -/
def takePfail (s : State) : State :=
  haltPart (offer { cause := .powerFail } (setFlag .powerFail (s.withControl { s.control with pfail := true })))

/-- PFAIL_ASSERT: the pin changes to asserted (R141). While the reset is held the level is not followed; it is sampled when
the reset ends (R187). -/
def execPfailAssert (s : State) : Host.Outcome State Fault Refusal :=
  .next (if !s.control.resetHeld && !s.control.pfail then takePfail s else s)

/-- PFAIL_RELEASE: the level is recorded and HALTED stands (R142). -/
def execPfailRelease (s : State) : Host.Outcome State Fault Refusal :=
  .next (if !s.control.resetHeld && s.control.pfail then s.withControl { s.control with pfail := false } else s)

/-- A PENDING peek buffer becomes EMPTY (R122). -/
def PeekBuffer.cut (p : PeekBuffer) : PeekBuffer :=
  match p with
  | .pending => .empty
  | p => p

/-- The engine as the halt leaves it: no job, no pending mark, no exclusive operation, no recovery step, the touched set
empty and LAPSED clear; the rest of the journal, the anchor record, the geometry, the rollback record and steps remaining
kept unused (R108, R141). -/
def Engine.toHalted (e : Engine) : Engine :=
  { e with
    state := .halted
    journal := { e.journal with touched := [], lapsed := false }
    jobs := []
    markPending := 0
    exclusive := none
    recovery := none
    peek := e.peek.cut }

/-- ENTER_HALTED: the part is halted and no tenancy is in progress (R141). -/
def execEnterHalted (s : State) : Host.Outcome State Fault Refusal :=
  .next (if !s.control.resetHeld && s.control.halted && s.port.tenancy.isNone && s.engine.state != .halted then
    (s.withEngine s.engine.toHalted).withTimer none
    else s)

/-- The engine as a warm restart leaves it: every volatile field cold, but the geometry in force and a READY peek buffer
kept (R134). -/
def Engine.restarted (e : Engine) : Engine := { coldEngine with geometry := e.geometry, peek := e.peek.cut }

/-- A word in WAITING is held as the engine enters RECOVERING, its timer started unless it runs already (R53, R66). -/
def holdWaiting (s : State) : State :=
  match s.host.current with
  | some c => if c.phase = .waiting then s.withCurrent (some { c with phase := .held, hold := some (c.hold.getD 0) }) else s
  | none => s

/-- WARM_RESTART: a restart is pending and no tenancy is in progress (R134, R181). -/
def execWarmRestart (s : State) : Host.Outcome State Fault Refusal :=
  .next (if !s.control.resetHeld && s.control.restartPending && s.port.tenancy.isNone then
    holdWaiting (((s.withEngine s.engine.restarted).withTimer none).withControl { s.control with restartPending := false })
    else s)

/-- COLD_RESET: every block stands at its cold reset value while the reset is held (R187). -/
def execColdReset (s : State) : Host.Outcome State Fault Refusal := .next (State.cold.withPending s.pending)

/-- The levels sampled as the reset ends: the straps, MARK and SSEL; the time base starts from 0 (R171, R187). -/
def sampleLevels (straps : BitVec 3) (markHigh selected : Bool) (s : State) : State :=
  ((s.withControl { s.control with resetHeld := false, straps := straps }).withSources
    { s.sources with level := markHigh, stamp := 0, micros := 0 }).withLink { s.link with ignoring := selected }

/-- RESET_END: the reset ends, and an asserted PFAIL is taken at once (R141, R187). -/
def execResetEnd (straps : BitVec 3) (pfailAsserted markHigh selected : Bool) (s : State) :
    Host.Outcome State Fault Refusal :=
  .next (if s.control.resetHeld then
    (if pfailAsserted then takePfail (sampleLevels straps markHigh selected s) else sampleLevels straps markHigh selected s)
    else s)

end Sys2Proof.Machine
end

