-- ==== Sys2Proof/Machine/Regions.lean ====
section
/-!
DEFINITION. The region table's commands: TABLE_READ, TABLE_WRITE and INSTALL (R41, R46, R47).
-/
namespace Sys2Proof.Machine

/-- The table a code names: 0 active, 1 staged (Table 11-3). -/
def tableResponse (i : Fin Config.regionCount) (table : Byte) (s : State) : Option (List Byte) :=
  match table.toNat with
  | 0 => some (activeBytes i s.regions.active[i] s.regions.activeDefault)
  | 1 => some (stagedBytes i s.regions.staged[i] s.regions.stagedDefault s.regions.defaultInstalls)
  | _ => none

/-- TABLE_READ's judgement (R47). -/
def judgeTableRead (index table : Byte) (s : State) : Response × State :=
  match (decodeRegion index.toNat).bind fun i => tableResponse i table s with
  | some bs => (answerData bs, s)
  | none => refuse .badArg s

/-- TABLE_READ (R47). -/
def execTableRead (index table : Byte) (s : State) : Host.Outcome State Fault Refusal :=
  serve (.tableRead index table) (judgeTableRead index table) s

/-- Replace one staged entry. -/
def setStaged (i : Fin Config.regionCount) (t : StagedEntry) (s : State) : State :=
  s.withRegions { s.regions with staged := s.regions.staged.set i t }

/-- TABLE_WRITE's judgement (R41). -/
def judgeTableWrite (index : Byte) (mask : BitVec 16) (f : TableFields) (s : State) : Response × State :=
  match decodeRegion index.toNat with
  | some i =>
    match tableEntry s.memorySize mask f s.regions.staged[i] with
    | some t => (answerOnly .ok, setStaged i t s)
    | none => refuse .badArg s
  | none => refuse .badArg s

/-- TABLE_WRITE (R41). -/
def execTableWrite (index : Byte) (mask : BitVec 16) (f : TableFields) (s : State) : Host.Outcome State Fault Refusal :=
  serve (.tableWrite index mask f) (unlessHalted (judgeTableWrite index mask f)) s

/-- INSTALL's judgement, by the engine state (R46). Between a RESTART taken in HALTED and the WARM_RESTART the engine state is
still HALTED while the HALTED condition is clear, and INSTALL is answered HALTED (DESIGN CHOICE, log entry 32). -/
def judgeInstall (s : State) : Response × State :=
  match s.engine.state with
  | .unformatted => (answerOnly .ok, install s)
  | .formatting => (answerOnly .ok, install s)
  | .disarmed => (answerOnly .ok, install s)
  | .broken => (answerOnly .ok, install s)
  | .armed => refuse .wrongState s
  | .rolling => refuse .busy s
  | .recovering => refuse .busy s
  | .halted => refuse .halted s

/-- INSTALL (R46). -/
def execInstall (s : State) : Host.Outcome State Fault Refusal := serve .install (unlessHalted judgeInstall) s

end Sys2Proof.Machine
end

