-- ==== Sys2Proof/Machine/Time.lean ====
section
/-!
DEFINITION. The passing of time (DESIGN CHOICE, log entry 2). Microseconds run the hold timer and the MARK line's candidate;
each thousand of them is a millisecond, which runs the time base and the mark timer. What has fallen due happens at the
latest when time next passes, and no count goes past the point at which its happening falls due.
-/
namespace Sys2Proof.Machine

/-- What has fallen due and not yet happened: the hold's expiry, the filtered change, the mark timer's expiry (R66, R81,
R83). -/
def takeDue (s : State) : State := expireTimer (changeIfDue (expireIfReached s))

/-- A time of t µs after n more, which stops at the limit at which its happening falls due. -/
def timeAfter (limit n t : Nat) : Nat := if limit ≤ t then t else min limit (t + n)

/-- A hold of t µs after n more; with limit 0 nothing falls due (R66). -/
def holdAfter (limit n t : Nat) : Nat := if limit = 0 then t + n else timeAfter limit n t

/-- The hold timer runs while its word is HELD or WAITING (R66). -/
def tickHold (n : Nat) (s : State) : State :=
  match s.host.current with
  | some c =>
    if c.phase = .held ∨ c.phase = .waiting then
      s.withCurrent (some { c with hold := c.hold.map (holdAfter s.settings.holdLimit n) })
    else s
  | none => s

/-- A candidate's time runs (R81). -/
def tickCandidate (n : Nat) (s : State) : State :=
  s.withSources { s.sources with candidate := s.sources.candidate.map (timeAfter s.settings.lineFilter.micros n) }

/-- So many microseconds pass. -/
def passMicros (n : Nat) (s : State) : State := tickCandidate n (tickHold n s)

/-- A millisecond has passed: the timestamp wraps, and a running timer counts down to 0 (R73, R83). -/
def passMillisecond (s : State) : State :=
  s.withSources { s.sources with
    stamp := s.sources.stamp + 1
    timer := s.sources.timer.map fun n => n - 1
    micros := 0 }

/-- One microsecond of the running millisecond has passed. -/
def countMicro (s : State) : State :=
  if 1000 ≤ s.sources.micros + 1 then passMillisecond s
  else s.withSources { s.sources with micros := s.sources.micros + 1 }

/-- The controller clocks one byte of the answer (R167). -/
def tickLink (s : State) : State := s.withLink s.link.clock

/-- A microsecond in which nothing is commanded; none passes while the reset is held (R187). -/
def idle (s : State) : State :=
  if s.control.resetHeld then s else countMicro (tickLink (passMicros 1 (takeDue s)))

end Sys2Proof.Machine
end

