-- ==== Sys2Proof/Machine/Sources.lean ====
section
/-!
DEFINITION. The mark sources' happenings: the MARK pin and its filter, the mark timer's expiries and the time base
(sections 4.1, 4.5 and 4.6).
-/
namespace Sys2Proof.Machine

/-- The pin turns: with no candidate standing that is a filtered change at once under filter 0 and else begins a candidate;
it ends a candidate standing (R81). -/
def pinTurns (s : State) : State :=
  match s.sources.candidate with
  | some _ => s.withSources { s.sources with candidate := none }
  | none =>
    if s.settings.lineFilter.micros = 0 then filteredChange s
    else s.withSources { s.sources with candidate := some 0 }

/-- MARK_PIN_CHANGE: the pin turns; a candidate whose time has reached the filter is a filtered change before that (R81).
While the reset is held the filtered level is not followed (R187). -/
def execMarkPinChange (s : State) : Host.Outcome State Fault Refusal :=
  .next (if s.control.resetHeld then s else pinTurns (changeIfDue s))

/-- FILTERED_CHANGE: the candidate's time has reached the filter (R81; DESIGN CHOICE, log entry 2). -/
def execFilteredChange (s : State) : Host.Outcome State Fault Refusal := .next (changeIfDue s)

/-- PERIODIC_EXPIRY: the remaining time has reached 0; a TIMER request, and the timer starts again with the full period
whatever became of it (R83, R84). -/
def execPeriodicExpiry (s : State) : Host.Outcome State Fault Refusal :=
  .next (if s.settings.timerMode = .periodic then expireTimer s else s)

/-- QUIET_EXPIRY: the remaining time has reached 0; a TIMER request, and the timer stops (R83, R85). -/
def execQuietExpiry (s : State) : Host.Outcome State Fault Refusal :=
  .next (if s.settings.timerMode = .quiet then expireTimer s else s)

/-- TIMESTAMP_TICK: the rest of the running millisecond passes, once what has fallen due has happened; the timestamp wraps,
and a running timer counts down to 0 (R73, R83; DESIGN CHOICE, log entry 2). While the reset is held the time base does not
run (R187). -/
def execTimestampTick (s : State) : Host.Outcome State Fault Refusal :=
  .next (if s.control.resetHeld then s else passMillisecond (passMicros (1000 - s.sources.micros) (takeDue s)))

end Sys2Proof.Machine
end

