-- ==== Sys2Proof/Machine/Dispatch.lean ====
section
/-!
DEFINITION. The dispatcher: each command and happening calls its own meaning.
-/
namespace Sys2Proof.Machine

/-- The meaning of each row of spec/opcode_table.json. -/
def exec (i : Instr) (s : State) : Host.Outcome State Fault Refusal :=
  match i with
  | .status => Sys2Proof.Machine.execStatus s
  | .get item => Sys2Proof.Machine.execGet item s
  | .set item value => Sys2Proof.Machine.execSet item value s
  | .tableRead index table => Sys2Proof.Machine.execTableRead index table s
  | .tableWrite index mask fields => Sys2Proof.Machine.execTableWrite index mask fields s
  | .install => Sys2Proof.Machine.execInstall s
  | .arm action => Sys2Proof.Machine.execArm action s
  | .disarm => Sys2Proof.Machine.execDisarm s
  | .mark => Sys2Proof.Machine.execMark s
  | .release n => Sys2Proof.Machine.execRelease n s
  | .rollback depth => Sys2Proof.Machine.execRollback depth s
  | .discard => Sys2Proof.Machine.execDiscard s
  | .format sizeCode => Sys2Proof.Machine.execFormat sizeCode s
  | .peek slot => Sys2Proof.Machine.execPeek slot s
  | .peekRead => Sys2Proof.Machine.execPeekRead s
  | .marksRead first count => Sys2Proof.Machine.execMarksRead first count s
  | .captureSet slot mode cause filter => Sys2Proof.Machine.execCaptureSet slot mode cause filter s
  | .captureRead slot => Sys2Proof.Machine.execCaptureRead slot s
  | .ackEvents set => Sys2Proof.Machine.execAckEvents set s
  | .restart => Sys2Proof.Machine.execRestart s
  | .frameUnknown code length => Sys2Proof.Machine.execFrameUnknown code length s
  | .frameDiscarded => Sys2Proof.Machine.execFrameDiscarded s
  | .hostAccess kind address words => Sys2Proof.Machine.execHostAccess kind address words s
  | .hostTenancy => Sys2Proof.Machine.execHostTenancy s
  | .markTake => Sys2Proof.Machine.execMarkTake s
  | .arming => Sys2Proof.Machine.execArming s
  | .disarming => Sys2Proof.Machine.execDisarming s
  | .releaseJob => Sys2Proof.Machine.execReleaseJob s
  | .discardTenancy => Sys2Proof.Machine.execDiscardTenancy s
  | .peekJob => Sys2Proof.Machine.execPeekJob s
  | .rollbackAnchor => Sys2Proof.Machine.execRollbackAnchor s
  | .restoreStep => Sys2Proof.Machine.execRestoreStep s
  | .settle => Sys2Proof.Machine.execSettle s
  | .formatAnchorClear => Sys2Proof.Machine.execFormatAnchorClear s
  | .formatSlotClear => Sys2Proof.Machine.execFormatSlotClear s
  | .formatFinalAnchor => Sys2Proof.Machine.execFormatFinalAnchor s
  | .recoveryAnchorRead => Sys2Proof.Machine.execRecoveryAnchorRead s
  | .scanStep => Sys2Proof.Machine.execScanStep s
  | .memoryAnswer ok data => Sys2Proof.Machine.execMemoryAnswer ok data s
  | .holdExpiry => Sys2Proof.Machine.execHoldExpiry s
  | .periodicExpiry => Sys2Proof.Machine.execPeriodicExpiry s
  | .quietExpiry => Sys2Proof.Machine.execQuietExpiry s
  | .markPinChange => Sys2Proof.Machine.execMarkPinChange s
  | .filteredChange => Sys2Proof.Machine.execFilteredChange s
  | .pfailAssert => Sys2Proof.Machine.execPfailAssert s
  | .pfailRelease => Sys2Proof.Machine.execPfailRelease s
  | .coldReset => Sys2Proof.Machine.execColdReset s
  | .warmRestart => Sys2Proof.Machine.execWarmRestart s
  | .enterHalted => Sys2Proof.Machine.execEnterHalted s
  | .timestampTick => Sys2Proof.Machine.execTimestampTick s
  | .resetEnd straps pfailAsserted markHigh selected => Sys2Proof.Machine.execResetEnd straps pfailAsserted markHigh selected s
  | .frameBegin => Sys2Proof.Machine.execFrameBegin s
  | .frameEnd => Sys2Proof.Machine.execFrameEnd s

end Sys2Proof.Machine
end

