-- ==== Sys2Proof/Safety.lean ====
section
/-!
DEFINITION. The terms in which statements about the KJ2416 are made: when the link takes a command and what answering leaves,
when a grant is due and what a first access looks like, and the conditions every step keeps. A run is safe when each of these
conditions holds in each of its states. No step ends in a fault: the part has none.
-/
namespace Sys2Proof.Machine

/-! ## Commands and their answers -/

/-- A frame's command is about to be taken: SSEL is low, the part is out of reset, and the frame has just begun (R167). -/
def State.serving (s : State) : Prop := s.control.resetHeld = false ∧ s.link.phase = .code

/-- The link hands engine commands on: the part is neither HALTED nor waiting for a restart (R180, R181). -/
def State.engineListens (s : State) : Prop :=
  s.serving ∧ s.control.halted = false ∧ s.control.restartPending = false

/-- The state with a command's answer formed: status and response bytes, the link in TURNAROUND (R168, R170). -/
def State.answered (s : State) (x : Status) (bs : List Byte) : State :=
  { s with link := { s.link with phase := .turnaround, response := some ⟨x, bs⟩ } }

/-- The commands that only read (R179, R180). -/
def readsOnly : Instr → Bool
  | .status => true
  | .get _ => true
  | .tableRead _ _ => true
  | .peekRead => true
  | .marksRead _ _ => true
  | .captureRead _ => true
  | _ => false

/-- The commands answered HALTED while the part is HALTED (R180). -/
def refusedWhileHalted : Instr → Bool
  | .set _ _ => true
  | .tableWrite _ _ _ => true
  | .install => true
  | .arm _ => true
  | .disarm => true
  | .mark => true
  | .release _ => true
  | .rollback _ => true
  | .discard => true
  | .format _ => true
  | .peek _ => true
  | .captureSet _ _ _ _ => true
  | _ => false

/-- The commands answered BUSY while a restart is pending (R181). -/
def refusedWhileRestarting : Instr → Bool
  | .arm _ => true
  | .disarm => true
  | .mark => true
  | .release _ => true
  | .rollback _ => true
  | .discard => true
  | .format _ => true
  | .peek _ => true
  | _ => false

/-! ## Tenancies -/

/-- The first access of a run of writes with all four lanes (R112). -/
def writing (w : Work) (a : Nat) (ws : List Word) : Tenancy := ⟨w, .write a 0xF (ws.headD 0) ws.tail⟩

/-- The first access of a run of n reads (R112). -/
def reading (w : Work) (a n : Nat) : Tenancy := ⟨w, .read a (n - 1) []⟩

/-- The port with this tenancy begun by a grant to the engine (R111, R118). -/
def State.engineTenancy (s : State) (t : Tenancy) : State := { s with port := ⟨some t, .engine⟩ }

/-- The port given back at once after a grant to the engine (R112). -/
def State.engineGranted (s : State) : State := { s with port := ⟨none, .engine⟩ }

/-- The anchor copy an anchor write made now writes: the generation that follows, the geometry in force and the memory size
code, with what the operation supplies (R124, R126). -/
def State.anchorNow (s : State) (st : AnchorState) (action : RestartAction) (headSlot : Nat)
    (headSequence targetSequence epoch : Word) : AnchorCopy :=
  ⟨s.engine.anchorTarget.2, st, s.engine.geometry.getD 0, s.memoryCode, action, headSlot, headSequence, targetSequence,
    epoch⟩

/-- An anchor write's tenancy at its first access: to the copy that is not current (R126). -/
def State.anchorWriting (s : State) (w : Work) (c : AnchorCopy) : Tenancy :=
  writing w (s.copyAddress s.engine.anchorTarget.1) c.words

/-- A slot write's tenancy at its first access (R6). -/
def State.slotWriting (s : State) (w : Work) (slot : Nat) (e : Entry) : Tenancy := writing w (s.slotAddress slot) e.words

/-- The step's last write awaits its answer. -/
def State.lastWrite (s : State) (w : Work) : Prop := ∃ a l x, s.port.tenancy = some ⟨w, .write a l x []⟩

/-- The step's last read awaits its answer, these words having been read before it. -/
def State.lastRead (s : State) (w : Work) (got : List Word) : Prop := ∃ a, s.port.tenancy = some ⟨w, .read a 0 got⟩

/-- An access of the step awaits its answer. -/
def State.working (s : State) (w : Work) : Prop := ∃ x, s.port.tenancy = some ⟨w, x⟩

/-- The steps of the MARK, RELEASE and PEEK jobs (R116). -/
def Work.servesJob : Work → Bool
  | .markRoom _ _ => true
  | .markAppend _ _ _ => true
  | .markLapseEnd _ _ => true
  | .markLimit _ _ => true
  | .release _ => true
  | .peek _ _ => true
  | _ => false

/-- A job is running (R116). -/
def State.jobServed (s : State) : Prop := ∃ t, s.port.tenancy = some t ∧ t.work.servesJob = true

/-- No job is queued or running and no exclusive operation runs (R116, R117). A host tenancy may be in progress. -/
def State.engineFree (s : State) : Prop := s.engine.jobs = [] ∧ s.engine.exclusive = none ∧ ¬ s.jobServed

/-- The host tenancy in progress is making a release: its anchor write is issued and not answered (R94). -/
def State.hostReleases (s : State) : Prop := s.working .hostFirstWrite ∨ s.working .hostRelease ∨ s.working .hostLose

/-- The state with these flags set besides those already set (R157). -/
def State.flagged (s : State) (x : FlagSet) : State := { s with events := { s.events with flags := s.events.flags ||| x } }

/-- The engine is ARMED, or ROLLING with a rollback begun from ARMED (R83). -/
def State.armingStands (s : State) : Bool :=
  s.engine.state == .armed || (s.engine.state == .rolling && (s.engine.rollback.map (·.origin)) == some .armed)

/-- A word that asks for the memory port or is held (R70, R71). -/
def HostAccess.waits (c : HostAccess) : Prop := c.phase = .waiting ∨ c.phase = .held

/-- The steps of a host tenancy (R113). -/
def Work.ofHost : Work → Bool
  | .hostRead => true
  | .hostWrite => true
  | .hostFirstWrite => true
  | .hostRelease => true
  | .hostLose => true
  | .hostOldValue => true
  | .hostUndo => true
  | _ => false

/-- The steps during which FORMAT or recovery's anchor reads hold the port (R130 to R132, R135). -/
def Work.ofFormatOrAnchorRead : Work → Bool
  | .clearFirst _ => true
  | .clearSecond => true
  | .clearSlot _ => true
  | .formatAnchor => true
  | .readCopyA => true
  | .readCopyB _ => true
  | _ => false

/-- The host port after it is told of a change: a held word asks again, and anything else is as it was (R65). -/
def State.woken (s : State) : HostPort :=
  match s.host.current with
  | some c => if c.phase = .held then { s.host with current := some { c with phase := .waiting } } else s.host
  | none => s.host

/-- The anchor writes whose failure puts the engine into BROKEN by R127: all but those of a rollback and of FORMAT. -/
def Work.writesAnchor : Work → Bool
  | .hostFirstWrite => true
  | .hostRelease => true
  | .hostLose => true
  | .markRoom _ _ => true
  | .markLapseEnd _ _ => true
  | .markLimit _ _ => true
  | .armRoom _ _ => true
  | .armAnchor _ _ => true
  | .disarm _ => true
  | .release _ => true
  | .discard => true
  | _ => false

/-- The in-chip journal emptied on entry into BROKEN (R104, R127). -/
def Journal.broken (j : Journal) : Journal :=
  { j with head := j.tail, fill := 0, marks := [], touched := [], lapsed := false }

/-! ## What a word's answer, an append, a release and the end of recovery leave -/

/-- The answer FAULT as the bus carries it, with its cause: a read carries zero (R68). -/
def faultTo (k : AccessKind) (x : FaultCause) : HostAnswer :=
  .fault x (match k with
    | .read => some 0
    | .write => none)

/-- What a word's answer FAULT does besides going out on the bus: its cause's flag is set, a LOCKED_WRITE answer is offered as
LOCKED_WRITE, and every one as FAULT, with the word's address, kind and byte lanes, a write's data, the region its grant gave,
and for FAULT the cause (R56, R68, R69, R147). That a write without byte lanes is offered like any other is the model's reading
(log entry 28). -/
def State.faulted (c : HostAccess) (x : FaultCause) (s : State) : State :=
  let word : WordDetail := ⟨c.wordAddress, c.kind, c.word.lanes⟩
  let data : Option Word := match c.kind with
    | .write => some c.word.data
    | .read => none
  let region : Option (Fin 12) := match c.grant with
    | some g => g.region
    | none => none
  let flagged : State := match x.flag with
    | some f => s.flagged (BitVec.twoPow 25 f.bit)
    | none => s
  let locked : State := if x = .lockedWrite then offer ⟨.lockedWrite, some word, data, region, none, none⟩ flagged else flagged
  offer ⟨.fault, some word, data, region, some x, none⟩ locked

/-- The words of an access after its current one, none granted yet (R48). -/
def HostAccess.wordsAfter (c : HostAccess) : List HostAccess :=
  (List.range (c.words.length - c.position - 1)).map fun k => { c with position := c.position + 1 + k, grant := none }

/-- A word's answer FAULT, and after it that of each word left in its access, with this cause (R49, R70). -/
def State.faultedThrough (c : HostAccess) (x rest : FaultCause) (s : State) : State :=
  c.wordsAfter.foldl (fun u d => u.faulted d rest) (s.faulted c x)

/-- The cause with which the entry checks answer every word after this one, if they do: SKIPPED after a write, POWER_FAIL while
the part is HALTED, OUT_OF_SPACE when the next word lies above data space, as then those after it do (R50, R51). -/
def HostAccess.restFails (c : HostAccess) (s : State) : Option FaultCause :=
  if c.kind = .write ∨ c.skipping = true then some .skipped
  else if s.control.halted = true ∨ s.engine.state = .halted then some .powerFail
  else if s.dataSpaceEnd ≤ c.wordAddress + 4 then some .outOfSpace
  else none

/-- The word after this one as it stands once it has passed its entry checks: waiting, or held in recovery (R49, R50, R53). -/
def HostAccess.following (c : HostAccess) (s : State) : HostAccess :=
  { c with
    position := c.position + 1
    phase := if s.engine.inRecovery = true then .held else .waiting
    hold := if s.engine.inRecovery = true then some 0 else none
    grant := none }

/-- What answering the current word FAULT leaves of s at the host port, in the capture slots and in the flags, no request being
presented: the words after it are answered too where the entry checks fail them, and else the next one waits or is held (R49,
R50, R51, R69). -/
def State.faultAnswered (c : HostAccess) (x : FaultCause) (s t : State) : Prop :=
  s.host.presented = [] →
  match c.restFails s with
  | some y => t.host = ⟨none, s.host.answers ++ faultTo c.kind x ::
        List.replicate (c.words.length - c.position - 1) (faultTo c.kind y), []⟩ ∧
      t.captures = (s.faultedThrough c x y).captures ∧ t.events = (s.faultedThrough c x y).events
  | none => t.host = ⟨if c.position + 1 < c.words.length then some (c.following s) else none,
        s.host.answers ++ [faultTo c.kind x], []⟩ ∧
      t.captures = (s.faulted c x).captures ∧ t.events = (s.faulted c x).events

/-- The word's region counts one, when the word has a region whose entry is enabled with this target (R30, R35, R36). -/
def State.counted (target : CountTarget) (c : HostAccess) (s : State) : State :=
  match c.grant with
  | some ⟨_, some i⟩ =>
    if s.regions.active[i].config.enabled = true ∧ s.regions.active[i].config.target = target then countEntry i s else s
  | _ => s

/-- The watermark check of an append that found this fill before it (R22). -/
def State.watched (before : Nat) (s : State) : State :=
  if s.settings.watermark ≠ 0 ∧ before < s.settings.watermark * s.engine.slots / 8 ∧
      s.settings.watermark * s.engine.slots / 8 ≤ s.engine.journal.fill then
    offer { cause := .journalHigh } (s.flagged (BitVec.twoPow 25 3))
  else s

/-- The release of the n oldest epochs once its anchor write has completed, m being the mark that becomes first (R17). -/
def State.released (n : Nat) (m : MarkElement) (s : State) : State :=
  { s.flagged (BitVec.twoPow 25 2) with
    engine := { s.engine with
      anchor := some s.engine.anchorTarget
      journal := { s.engine.journal with
        head := m.slot
        fill := s.engine.journal.fill - slotsFrom s.engine.slots s.engine.journal.head m.slot
        marks := s.engine.journal.marks.drop n } }
    host := s.woken }

/-- What the end of recovery leaves of a state in which the engine stands as recovery left it: RECOVERY_DONE set; a held word
asks again when it lies in the data space now in force, and else is answered OUT_OF_SPACE (R53, R140). That RECOVERY_DONE is set
also when PFAIL or RESTART was taken during the last tenancy is the model's choice (log entry 23). -/
def State.recovered (s t : State) : Prop :=
  ((∀ c, s.host.current = some c → c.phase ≠ .held) → t = s.flagged (BitVec.twoPow 25 7)) ∧
  ∀ c, s.host.current = some c → c.phase = .held →
    (c.wordAddress < s.dataSpaceEnd →
      t = { s.flagged (BitVec.twoPow 25 7) with host := { s.host with current := some { c with phase := .waiting } } }) ∧
    (s.dataSpaceEnd ≤ c.wordAddress →
      (∃ rest, t.host.answers = s.host.answers ++ faultTo c.kind .outOfSpace :: rest) ∧
      (s.flagged (BitVec.twoPow 25 7)).faultAnswered c .outOfSpace t ∧
      hasFlag t.events.flags .outOfSpace = true ∧ hasFlag t.events.flags .recoveryDone = true ∧
      t.engine = s.engine ∧ t.settings = s.settings ∧ t.port = s.port ∧ t.regions = s.regions ∧
      t.sources = s.sources ∧ t.link = s.link ∧ t.control = s.control)

/-! ## Conditions every step keeps -/

/-- R60: the touched set holds at most 64 distinct addresses, and is empty unless the engine is ARMED and not LAPSED. The
last two clauses say when FORMAT and the anchor reads run, which is what keeps the first in states no run reaches. -/
def TouchedSetOk (s : State) : Prop :=
  s.engine.journal.touched.Nodup ∧
  s.engine.journal.touched.length ≤ 64 ∧
  (s.engine.journal.touched ≠ [] → s.engine.state = .armed ∧ s.engine.journal.lapsed = false) ∧
  (∀ p, s.engine.exclusive = some (.format p) → s.engine.state ≠ .armed) ∧
  (∀ t, s.port.tenancy = some t → t.work.ofFormatOrAnchorRead = true → s.engine.state ≠ .armed)

/-- Table 10-5: each configuration item with a numeric range lies in it. -/
def SettingsOk (s : State) : Prop :=
  s.settings.watermark ≤ 7 ∧ 1 ≤ s.settings.retainedLimit ∧ s.settings.retainedLimit ≤ 16 ∧
  s.settings.holdLimit ≤ 65535 ∧ 1 ≤ s.settings.timerPeriod ∧ s.settings.timerPeriod ≤ 65535

/-- Table 8-1, R148 and R149: a slot is OFF in mode OFF alone, HELD in mode FIRST alone; its record is present exactly when
its count is not 0; a FIRST slot's count is 1 when it is HELD and 0 otherwise; no count passes 255. -/
def CaptureSlot.Ok (c : CaptureSlot) : Prop :=
  (c.mode = .off ↔ c.phase = .off) ∧ (c.phase = .held → c.mode = .first) ∧ (c.record.isSome = true ↔ c.count ≠ 0) ∧
  (c.mode = .first → c.count = if c.phase = .held then 1 else 0) ∧ (c.mode = .off → c.count = 0) ∧ c.count ≤ 255

/-- Every capture slot is as Table 8-1 has it. -/
def CapturesOk (s : State) : Prop := ∀ i : Fin Config.captureCount, s.captures[i].Ok

/-- R48, R111 and R185: a host tenancy is in progress exactly while the current word is GRANTED, no word is left in ENTRY
between steps, the current word is one of its access's, and no request stays presented at an IDLE port. -/
def HostWordOk (s : State) : Prop :=
  ((∃ t, s.port.tenancy = some t ∧ t.work.ofHost = true) ↔ (s.host.current.map (·.phase)) = some .granted) ∧
  (∀ c, s.host.current = some c → c.phase ≠ .entry ∧ c.position < c.words.length) ∧
  (s.host.current = none → s.host.presented = [])

end Sys2Proof.Machine
end

