-- ==== Sys2Proof/Certificates/Slice0/Obligations.lean ====
section
/-!
DEFINITION. The statements about the KJ2416, for the provers. Each names in its docstring the rules of spec/ it formalises.
Where a statement says that a command leaves a state written out as an update, everything the update does not name is
unchanged: that is its frame. No meaning stops, so none of them is about a stop.
-/
open Sys2Proof Sys2Proof.Machine

/-! ## The step, the resets and the halt -/

/-- The command at the front of the queue is run on the state with the queue's rest: the model's choice of how commands and
happenings come (log entry 4). -/
def Obligations.StepTakesTheFrontCommand : Prop :=
  ∀ (c : Instr) (rest : List Instr) (s : State), step { s with pending := c :: rest } = exec c { s with pending := rest }

/-- Every command and happening answers a next state in every state, and none touches the commands still waiting. That a
happening that cannot come about in the state it meets changes nothing, and does not stop, is the model's choice (log entry
3), and so is the queue of commands, which is the model's own (log entries 4 and 20). -/
def Obligations.EveryCommandCompletesAndKeepsTheQueue : Prop :=
  ∀ (c : Instr) (s : State), ∃ t, exec c s = .next t ∧ t.pending = s.pending

/-- R187, with the cold values of R29, R72, R92, R111, R134, R141, R143, R156, R171 and Table 10-5. The levels the reset
samples at its end are not named. That no request stays presented is the model's choice (log entry 27). -/
def Obligations.ColdResetLeavesColdValues : Prop :=
  ∀ s : State, ∃ t, exec .coldReset s = .next t ∧ t.pending = s.pending ∧
    t.engine = ⟨.recovering, ⟨0, 0, 0, 0, 0, 0, [], [], false⟩, none, none, .keep, [], 0, none, none, 0, some .copyA, .empty⟩ ∧
    t.settings = ⟨.stall, 6, 4, 2000, .off, 1000, .none, .zero⟩ ∧
    t.host.current = none ∧ t.host.presented = [] ∧ t.port = ⟨none, .engine⟩ ∧
    (∀ i : Fin 12, t.regions.active[i] = ⟨⟨false, 0, 0, .pass, .writes, 0, .none, false⟩, 0, false⟩) ∧
    (∀ i : Fin 12, t.regions.staged[i] = ⟨⟨false, 0, 0, .pass, .writes, 0, .none, false⟩, none, false⟩) ∧
    t.regions.activeDefault = .journal ∧ t.regions.stagedDefault = .journal ∧ t.regions.defaultInstalls = false ∧
    t.sources.stamp = 0 ∧ t.sources.candidate = none ∧ t.sources.timer = none ∧
    (∀ i : Fin 4, t.captures[i] = ⟨.off, .off, .lineEdge, none, false, 0, none⟩) ∧
    t.events = ⟨0, 0⟩ ∧ t.attnLow = false ∧ t.link.phase = .idle ∧ t.link.response = none ∧
    t.control.halted = false ∧ t.control.restartPending = false ∧ t.control.resetHeld = true

/-- R187 and R171: at the end of the reset the straps, the MARK level and the selection are sampled and the time base starts
from 0; R141: a PFAIL level found asserted is taken at once, POWER_FAIL set and offered and the part HALTED. -/
def Obligations.ResetEndSamplesTheLevels : Prop :=
  ∀ (straps : BitVec 3) (pfail high selected : Bool) (s : State),
    s.control.resetHeld = true → s.control.halted = false → s.control.pfail = false → s.host.current = none →
    let t : State := { s with
      control := { s.control with resetHeld := false, straps := straps, pfail := pfail, halted := pfail }
      sources := { s.sources with level := high, stamp := 0, micros := 0 }
      link := { s.link with ignoring := selected } }
    exec (.resetEnd straps pfail high selected) s =
      .next (if pfail then offer { cause := .powerFail } (t.flagged (BitVec.twoPow 25 24)) else t)

/-- R134, R181, R92: with no tenancy in progress a pending restart clears the engine's volatile state, but the geometry in
force and a READY peek buffer, stops the timer, and enters RECOVERING; R53: a waiting word is held. -/
def Obligations.WarmRestartEntersRecovery : Prop :=
  ∀ s : State, s.control.resetHeld = false → s.control.restartPending = true → s.port.tenancy = none →
    exec .warmRestart s = .next { s with
      engine := ⟨.recovering, ⟨0, 0, 0, 0, 0, 0, [], [], false⟩, s.engine.geometry, none, .keep, [], 0, none, none, 0,
        some .copyA, match s.engine.peek with
          | .ready r => .ready r
          | _ => .empty⟩
      sources := { s.sources with timer := none }
      control := { s.control with restartPending := false }
      host := match s.host.current with
        | some c =>
          if c.phase = .waiting then
            { s.host with current := some { c with phase := .held, hold := some (c.hold.getD 0) } }
          else s.host
        | none => s.host }

/-- R141: an assertion sets POWER_FAIL, offers POWER_FAIL and leaves the part HALTED; R70: a word held or waiting is answered
POWER_FAIL, and the rest of its access POWER_FAIL for a read and SKIPPED for a write, so that the host port is IDLE when no
request stays presented; R69: each of these answers is offered, after the POWER_FAIL offer, a write's without lanes too,
which is the model's reading (log entry 28). That the records of these answers show the engine state, fill and LAPSED from
before the halt, also with no tenancy in progress, is the model's choice (log entry 25). R142: a release records the level
and nothing more. -/
def Obligations.PfailHaltsThePart : Prop :=
  ∀ s : State, s.control.resetHeld = false →
    (s.control.pfail = true → exec .pfailRelease s = .next { s with control := { s.control with pfail := false } }) ∧
    (s.control.pfail = false → s.control.halted = true ∨ (∀ c, s.host.current = some c → c.phase = .granted) →
      exec .pfailAssert s = .next (offer { cause := .powerFail } { s.flagged (BitVec.twoPow 25 24) with
        control := { s.control with pfail := true, halted := true } })) ∧
    (∀ c, s.control.pfail = false → s.control.halted = false → s.host.current = some c → c.waits →
      c.position < c.words.length → c.skipping = false →
      ∃ t rest, exec .pfailAssert s = .next t ∧
        t.control = { s.control with pfail := true, halted := true } ∧
        t.host = ⟨none, s.host.answers ++ faultTo c.kind .powerFail ::
          List.replicate (c.words.length - c.position - 1)
            (faultTo c.kind (if c.kind = .write then .skipped else .powerFail)) ++ rest, []⟩ ∧
        (s.host.presented = [] → rest = [] ∧
          let u : State := (offer { cause := .powerFail } (s.flagged (BitVec.twoPow 25 24))).faultedThrough c .powerFail
            (if c.kind = .write then .skipped else .powerFail)
          t.captures = u.captures ∧ t.events = u.events) ∧
        hasFlag t.events.flags .powerFail = true ∧
        t.engine = s.engine ∧ t.settings = s.settings ∧ t.port = s.port ∧ t.regions = s.regions ∧
        t.sources = s.sources ∧ t.link = s.link)

/-- The passing of time: a microsecond and a byte time at a step on an empty queue, the rest of the running millisecond at
TIMESTAMP_TICK (log entry 2). R66: the hold timer of a HELD or WAITING word runs. R81: a standing candidate's time runs. R73
and R83: a millisecond adds one to the timestamp, modulo 2^32, and takes one from a running timer's remaining time. R167,
R170: the turnaround byte leads to the response, the status, length and response bytes go out in order, and after the last
the frame drains. What has fallen due happens before time passes, and a count stops where its happening falls due, a
remaining time at 0 until its expiry comes: that is the model's choice, and so is the count of microseconds (log entry 2).
That the hold timer of a GRANTED word stands still meanwhile is the model's reading (log entry 19). -/
def Obligations.TimePasses : Prop :=
  ∀ s : State, s.control.resetHeld = false →
    let limit : Nat := s.settings.holdLimit
    let filter : Nat := s.settings.lineFilter.micros
    let holdDue : Prop := ∃ c n, s.host.current = some c ∧ c.waits ∧ c.hold = some n ∧ limit ≠ 0 ∧ limit ≤ n
    let changeDue : Prop := ∃ n, s.sources.candidate = some n ∧ filter ≤ n
    let timerDue : Prop := s.sources.timer = some 0 ∧ s.settings.timerMode ≠ .off
    let on (n : Nat) : State := { s with
      host := match s.host.current with
        | some c =>
          if c.phase = .waiting ∨ c.phase = .held then
            { s.host with current := some { c with hold := match c.hold with
              | some h => some (if limit = 0 then h + n else min limit (h + n))
              | none => none } }
          else s.host
        | none => s.host
      sources := { s.sources with candidate := match s.sources.candidate with
        | some h => some (min filter (h + n))
        | none => none } }
    let millisecond (t : State) : State := { t with sources := { t.sources with
      stamp := t.sources.stamp + 1
      timer := match t.sources.timer with
        | some n => some (n - 1)
        | none => none
      micros := 0 } }
    let clocked (t : State) : State := { t with link := { t.link with phase :=
      match t.link.response, t.link.phase with
      | some r, .turnaround => .response (r.data.length + 2)
      | some _, .response k => if k ≤ 1 then .drain else .response (k - 1)
      | _, p => p } }
    (¬ holdDue → ¬ changeDue → ¬ timerDue →
      exec .timestampTick s = .next (millisecond (on (1000 - s.sources.micros))) ∧
      (s.pending = [] → step s = .next (clocked (if 1000 ≤ s.sources.micros + 1 then millisecond (on 1)
        else { on 1 with sources := { (on 1).sources with micros := s.sources.micros + 1 } })))) ∧
    (∀ t, holdDue → exec .holdExpiry s = .next t →
      exec .timestampTick s = exec .timestampTick t ∧ (s.pending = [] → step s = step t)) ∧
    (∀ t, ¬ holdDue → changeDue → exec .filteredChange s = .next t →
      exec .timestampTick s = exec .timestampTick t ∧ (s.pending = [] → step s = step t)) ∧
    (∀ t, ¬ holdDue → ¬ changeDue → timerDue → s.settings.timerPeriod ≠ 0 →
      exec (if s.settings.timerMode = .periodic then .periodicExpiry else .quietExpiry) s = .next t →
      exec .timestampTick s = exec .timestampTick t ∧ (s.pending = [] → step s = step t)) ∧
    (∀ r k, s.link.response = some r → k < r.data.length + 2 → s.link.phase = .response (r.data.length + 2 - k) →
      s.link.misoByte = (BitVec.ofNat 8 r.status.code :: BitVec.ofNat 8 r.data.length :: r.data).getD k 0) ∧
    ((∀ k, s.link.phase ≠ .response k) → s.link.misoByte = 0)

/-- R141: with no tenancy in progress the halted part empties the job queue, the pending mark set and a PENDING peek buffer,
ends any exclusive operation and recovery, empties the touched set, clears LAPSED, stops the timer and enters HALTED; the
rest of the in-chip journal, the anchor record, the geometry, the rollback record (R108) and steps remaining are kept. -/
def Obligations.EnterHaltedStopsTheEngine : Prop :=
  ∀ s : State, s.control.resetHeld = false → s.control.halted = true → s.port.tenancy = none → s.engine.state ≠ .halted →
    exec .enterHalted s = .next { s with
      engine := { s.engine with
        state := .halted
        jobs := []
        markPending := 0
        exclusive := none
        recovery := none
        journal := { s.engine.journal with touched := [], lapsed := false }
        peek := match s.engine.peek with
          | .pending => .empty
          | p => p }
      sources := { s.sources with timer := none } }

/-! ## Frames and commands -/

/-- R167, R168, R171: SSEL falling begins a frame from IDLE; rising it ends a frame whose command was taken, or a selection
the link ignored, and discards a frame whose command was not. R169: a frame with an unknown code, or a length that its code
does not expect, is received in full and answered UNKNOWN with no response byte, in every engine state. No other block
changes. -/
def Obligations.FramesBeginAndEnd : Prop :=
  ∀ s : State,
    (∀ code length : Byte, s.serving → malformed code length = true →
      exec (.frameUnknown code length) s = .next (s.answered .unknown [])) ∧
    (s.control.resetHeld = false → s.link.phase = .idle → s.link.ignoring = false →
      exec .frameBegin s = .next { s with link := ⟨.code, false, none⟩ }) ∧
    (s.link.phase = .turnaround ∨ (∃ n, s.link.phase = .response n) ∨ s.link.phase = .drain ∨ s.link.ignoring = true →
      exec .frameEnd s = .next { s with link := ⟨.idle, false, none⟩ }) ∧
    (s.link.phase = .code ∨ s.link.phase = .length ∨ (∃ n, s.link.phase = .arguments n) →
      exec .frameDiscarded s = .next { s with link := ⟨.idle, false, none⟩ })

/-- R174, R175, R178, R179, R180: STATUS, GET, TABLE_READ, PEEK_READ, MARKS_READ and CAPTURE_READ are taken in every engine
state, HALTED included, and change nothing but the link's frame; a refusal carries no bytes (R170). R47, R123, R153, Tables
11-8, 11-10 and 11-11: the bytes of each response, and BAD_ARG for an entry, slot, position or count outside its range and
NOT_READY for a peek buffer without a result. The field of a host word address that does not fit is not named (log entry 6).
-/
def Obligations.ReadsAnswerAndChangeNothing : Prop :=
  (∀ (c : Instr) (s : State), readsOnly c = true → s.serving →
    ∃ x bs, exec c s = .next (s.answered x bs) ∧ (x ≠ .ok → bs = [])) ∧
  ∀ s : State, s.serving →
    let no (b : Bool) : Byte := if b then 1 else 0
    let u8 (n : Nat) : Byte := BitVec.ofNat 8 n
    let u16 (n : Nat) : List Byte := bytes16 (BitVec.ofNat 16 n)
    let shared (c : RegionConfig) : List Byte := [no c.enabled] ++ bytes24 c.base ++ bytes24 c.limit ++
      [u8 c.mode.code, u8 c.target.code, u8 c.compareAction.code, no c.ring] ++ bytes32 c.compareValue
    (∀ i : Fin 12, exec (.tableRead (u8 i.val) 0) s = .next (s.answered .ok
      ([0, u8 i.val] ++ shared s.regions.active[i].config ++ bytes32 s.regions.active[i].counter ++
        [no s.regions.active[i].hit, 0, u8 s.regions.activeDefault.code, 0]))) ∧
    (∀ i : Fin 12, exec (.tableRead (u8 i.val) 1) s = .next (s.answered .ok
      ([1, u8 i.val] ++ shared s.regions.staged[i].config ++ bytes32 (s.regions.staged[i].preset.getD 0) ++
        [no s.regions.staged[i].preset.isSome, no s.regions.staged[i].installs, u8 s.regions.stagedDefault.code,
          no s.regions.defaultInstalls]))) ∧
    (∀ index table : Byte, 11 < index.toNat ∨ 1 < table.toNat →
      exec (.tableRead index table) s = .next (s.answered .badArg [])) ∧
    (∀ r, s.engine.peek = .ready r → exec .peekRead s = .next (s.answered .ok (u16 r.slot ++
      [u8 (match r.validity with
        | .valid => 0
        | .invalid => 1
        | .readError => 2), no (!r.retained)] ++ r.words.flatMap bytes32))) ∧
    (s.engine.peek = .empty ∨ s.engine.peek = .pending → exec .peekRead s = .next (s.answered .notReady [])) ∧
    (∀ first count : Byte, first.toNat ≤ 15 → 1 ≤ count.toNat → count.toNat ≤ 4 →
      let found : List MarkElement := (s.engine.journal.marks.drop first.toNat).take count.toNat
      exec (.marksRead first count) s = .next (s.answered .ok
        ((found.take 1).flatMap (fun m => bytes32 m.epoch) ++ found.flatMap fun m =>
          bytes24 (BitVec.ofNat 24 (m.slot % 2 ^ 15 + 2 ^ 16 * m.sources.toNat)) ++ bytes32 m.sequence ++ bytes32 m.stamp))) ∧
    (∀ first count : Byte, 15 < first.toNat ∨ count.toNat = 0 ∨ 4 < count.toNat →
      exec (.marksRead first count) s = .next (s.answered .badArg [])) ∧
    (∀ i : Fin 4, let c : CaptureSlot := s.captures[i]
      let header : List Byte := [u8 c.mode.code, u8 c.phase.code, u8 c.cause.code, filterCode c.filter, no c.toggle, u8 c.count]
      (c.record = none → exec (.captureRead (u8 i.val)) s = .next (s.answered .ok (header ++ List.replicate 28 0))) ∧
      (∀ r, c.record = some r → (∀ w, r.word = some w → w.address < 2 ^ 24) →
        exec (.captureRead (u8 i.val)) s = .next (s.answered .ok (header ++
          [u8 (1 + 2 * r.word.isSome.toNat + 4 * r.writeData.isSome.toNat + 8 * r.region.isSome.toNat +
            16 * r.faultCause.isSome.toNat + 32 * r.sources.isSome.toNat), u8 r.cause.code] ++ bytes32 r.stamp ++
          [u8 (r.state.code + 128 * r.lapsed.toNat)] ++ u16 r.fill ++ bytes32 r.nextSequence ++ bytes32 r.epoch ++
          (match r.word with
            | some w => bytes24 (BitVec.ofNat 24 w.address) ++ [u8 (128 * (if w.kind = .write then 1 else 0) + w.lanes.toNat)]
            | none => [0, 0, 0, 0]) ++
          bytes32 (r.writeData.getD 0) ++ [u8 ((r.region.map (·.val)).getD 0), u8 ((r.faultCause.map (·.code)).getD 0),
            u8 (r.sources.getD 0).toNat])))) ∧
    (∀ slot : Byte, 3 < slot.toNat → exec (.captureRead slot) s = .next (s.answered .badArg []))

/-- R174, Table 11-7: each field of the STATUS response, at its bytes; fill, steps remaining and mark count, which never pass
32768 and 16, as the two or one bytes of their fields hold them. -/
def Obligations.StatusShowsTheSnapshot : Prop :=
  ∀ s : State, s.serving →
    ∃ b : Nat → Byte, exec .status s = .next (s.answered .ok ((List.range 26).map b)) ∧
      (b 0).toNat = s.engine.state.code ∧
      ((b 1).getLsbD 0 = true ↔ s.engine.state = .armed ∧ s.engine.journal.lapsed = true) ∧
      ((b 1).getLsbD 1 = true ↔ s.engine.state = .disarmed ∧ s.engine.journal.fill ≠ 0) ∧
      (b 1).getLsbD 2 = s.sources.level ∧ (b 1).getLsbD 3 = s.control.pfail ∧ (b 1).extractLsb' 4 4 = 0 ∧
      (join16 (b 2) (b 3)).toNat = s.engine.journal.fill % 2 ^ 16 ∧
      (join16 (b 4) (b 5)).toNat = s.engine.slots ∧
      (b 6).toNat = s.engine.journal.marks.length % 2 ^ 8 ∧
      join32 (b 7) (b 8) (b 9) (b 10) = s.engine.journal.epoch ∧
      join32 (b 11) (b 12) (b 13) (b 14) = s.engine.journal.nextSequence ∧
      (join16 (b 15) (b 16)).toNat = s.engine.steps % 2 ^ 16 ∧
      b 17 = s.engine.markPending.setWidth 8 ∧
      join32 (b 18) (b 19) (b 20) (b 21) = s.events.flags.setWidth 32 ∧
      join32 (b 22) (b 23) (b 24) (b 25) = (s.events.flags &&& s.events.enables).setWidth 32

/-- R175, Table 10-5: GET returns each item's configured value in 4 bytes, the staged default mode for item 4 and the enable
set for item 10; an item number outside the table is BAD_ARG. R176, R184: SET of an item outside the table, or of a value
outside its item's range, is BAD_ARG. None of these changes anything. -/
def Obligations.GetReturnsAndSetRefuses : Prop :=
  ∀ s : State, s.serving →
    exec (.get 1) s = .next (s.answered .ok (bytes32 (BitVec.ofNat 32 s.settings.fullPolicy.code))) ∧
    exec (.get 2) s = .next (s.answered .ok (bytes32 (BitVec.ofNat 32 s.settings.watermark))) ∧
    exec (.get 3) s = .next (s.answered .ok (bytes32 (BitVec.ofNat 32 s.settings.retainedLimit))) ∧
    exec (.get 4) s = .next (s.answered .ok (bytes32 (BitVec.ofNat 32 s.regions.stagedDefault.code))) ∧
    exec (.get 5) s = .next (s.answered .ok (bytes32 (BitVec.ofNat 32 s.settings.holdLimit))) ∧
    exec (.get 6) s = .next (s.answered .ok (bytes32 (BitVec.ofNat 32 s.settings.timerMode.code))) ∧
    exec (.get 7) s = .next (s.answered .ok (bytes32 (BitVec.ofNat 32 s.settings.timerPeriod))) ∧
    exec (.get 8) s = .next (s.answered .ok (bytes32 (BitVec.ofNat 32 s.settings.lineEdge.code))) ∧
    exec (.get 9) s = .next (s.answered .ok (bytes32 (BitVec.ofNat 32 s.settings.lineFilter.code))) ∧
    exec (.get 10) s = .next (s.answered .ok (bytes32 (s.events.enables.setWidth 32))) ∧
    (∀ item : Byte, item.toNat = 0 ∨ 10 < item.toNat → exec (.get item) s = .next (s.answered .badArg [])) ∧
    (∀ (item : Byte) (v : Word), s.control.halted = false →
      (item.toNat = 0 ∨ 10 < item.toNat ∨ item = 1 ∧ 3 < v.toNat ∨ item = 2 ∧ 7 < v.toNat ∨
        item = 3 ∧ (v.toNat = 0 ∨ 16 < v.toNat) ∨ item = 4 ∧ 2 < v.toNat ∨ item = 5 ∧ 65535 < v.toNat ∨
        item = 6 ∧ 2 < v.toNat ∨ item = 7 ∧ (v.toNat = 0 ∨ 65535 < v.toNat) ∨ item = 8 ∧ 3 < v.toNat ∨
        item = 9 ∧ 3 < v.toNat ∨ item = 10 ∧ 2 ^ 25 ≤ v.toNat) →
      exec (.set item v) s = .next (s.answered .badArg []))

/-- R176, Table 10-5: SET gives each item its value; R43: the default mode is staged, pending; R83: the timer mode stops the
timer and PERIODIC starts it while ARMED, and in ROLLING from an ARMED origin, and a period restarts a running timer. The
hold limit and the line filter are here where nothing falls due at once (R66, R81). -/
def Obligations.SetGivesTheItemItsValue : Prop :=
  ∀ s : State, s.serving → s.control.halted = false →
    (∀ (v : Word) (p : FullPolicy), v.toNat = p.code →
      exec (.set 1 v) s = .next ({ s with settings := { s.settings with fullPolicy := p } }.answered .ok [])) ∧
    (∀ v : Word, v.toNat ≤ 7 →
      exec (.set 2 v) s = .next ({ s with settings := { s.settings with watermark := v.toNat } }.answered .ok [])) ∧
    (∀ v : Word, 1 ≤ v.toNat → v.toNat ≤ 16 →
      exec (.set 3 v) s = .next ({ s with settings := { s.settings with retainedLimit := v.toNat } }.answered .ok [])) ∧
    (∀ (v : Word) (m : Mode), v.toNat = m.code →
      exec (.set 4 v) s =
        .next ({ s with regions := { s.regions with stagedDefault := m, defaultInstalls := true } }.answered .ok [])) ∧
    (∀ v : Word, v.toNat ≤ 65535 →
      (∀ c n, s.host.current = some c → c.waits → c.hold = some n → v.toNat = 0 ∨ n < v.toNat) →
      exec (.set 5 v) s = .next ({ s with settings := { s.settings with holdLimit := v.toNat } }.answered .ok [])) ∧
    (∀ (v : Word) (m : TimerMode), v.toNat = m.code →
      exec (.set 6 v) s = .next ({ s with
        settings := { s.settings with timerMode := m }
        sources := { s.sources with
          timer :=
            if m = TimerMode.periodic ∧ s.armingStands = true then some s.settings.timerPeriod else none } }.answered
              .ok [])) ∧
    (∀ v : Word, 1 ≤ v.toNat → v.toNat ≤ 65535 →
      exec (.set 7 v) s = .next ({ s with
        settings := { s.settings with timerPeriod := v.toNat }
        sources := { s.sources with timer := if s.sources.timer = none then none else some v.toNat } }.answered .ok [])) ∧
    (∀ (v : Word) (e : LineEdge), v.toNat = e.code →
      exec (.set 8 v) s = .next ({ s with settings := { s.settings with lineEdge := e } }.answered .ok [])) ∧
    (∀ (v : Word) (f : LineFilter), v.toNat = f.code → (∀ n, s.sources.candidate = some n → n < f.micros) →
      exec (.set 9 v) s = .next ({ s with settings := { s.settings with lineFilter := f } }.answered .ok [])) ∧
    (∀ v : Word, v.toNat < 2 ^ 25 →
      exec (.set 10 v) s = .next ({ s with events := { s.events with enables := v.setWidth 25 } }.answered .ok []))

/-- R66: a SET that lowers the hold limit to or below the time a held or waiting word has run answers that word STALL_EXPIRED
as the SET is taken; R51, R69: that FAULT is offered (a write's without lanes too, log entry 28), the rest of a write is
SKIPPED, and the next word of a read is taken; R81: a SET of the line filter at or below the time a candidate has held makes
the filtered change as the SET is taken: the level turned and LINE_CHANGE set; R82: a change the edge selection selects is
offered as LINE_EDGE and asks for a mark with source LINE. -/
def Obligations.SetActsAtOnceOnHoldAndFilter : Prop :=
  ∀ s : State, s.serving → s.control.halted = false →
    (∀ (v : Word) (c : HostAccess) (n : Nat), v.toNat ≤ 65535 → s.host.current = some c → c.waits → c.hold = some n →
      v.toNat ≠ 0 → v.toNat ≤ n →
      ∃ t rest, exec (.set 5 v) s = .next t ∧
        t.link = ⟨.turnaround, s.link.ignoring, some ⟨.ok, []⟩⟩ ∧
        t.settings = { s.settings with holdLimit := v.toNat } ∧
        t.host.answers = s.host.answers ++ faultTo c.kind .stallExpired :: rest ∧
        hasFlag t.events.flags .stallExpired = true ∧ s.faultAnswered c .stallExpired t ∧
        t.port = s.port ∧ t.control = s.control ∧ t.engine.journal = s.engine.journal) ∧
    (∀ (v : Word) (f : LineFilter) (n : Nat), v.toNat = f.code → s.sources.candidate = some n → f.micros ≤ n →
      let turned : State := { s.flagged (BitVec.twoPow 25 14) with
        settings := { s.settings with lineFilter := f }
        sources := { s.sources with level := !s.sources.level, candidate := none } }
      let selected : Prop := s.settings.lineEdge = .both ∨ s.settings.lineEdge = .rise ∧ s.sources.level = false ∨
        s.settings.lineEdge = .fall ∧ s.sources.level = true
      (selected → exec (.set 9 v) s =
        .next ((requestMark .line (offer { cause := .lineEdge } turned)).answered .ok [])) ∧
      (¬ selected → exec (.set 9 v) s = .next (turned.answered .ok [])))

/-- R180: while HALTED the link answers the twelve commands HALTED and changes nothing; R181: while a restart is pending it
answers the engine's eight commands BUSY and changes nothing. -/
def Obligations.HaltAndRestartRefuseCommands : Prop :=
  ∀ (c : Instr) (s : State), s.serving →
    (refusedWhileHalted c = true → s.control.halted = true → exec c s = .next (s.answered .halted [])) ∧
    (refusedWhileRestarting c = true → s.control.halted = false → s.control.restartPending = true →
      exec c s = .next (s.answered .busy []))

/-- Table 10-4 and the answer tables of R19, R21, R46, R80, R87, R89, R94, R121, R129 and R117, by their first row that
applies: the status each engine command is answered with, by engine state. First with no job and no exclusive operation: a
state that refuses is judged before the depth of ROLLBACK and the slot of PEEK, and the argument of ARM, RELEASE and FORMAT
before the state. Then BUSY: a job queued or running bars the exclusive commands, an exclusive operation bars every command,
a queued RELEASE bars RELEASE, a queued or running PEEK bars PEEK, and a host tenancy that is making a release bars ROLLBACK.
A refusal changes nothing (R172). -/
def Obligations.AnswersByEngineState : Prop :=
  ∀ s : State, s.engineListens →
    let answers (c : Instr) (x : Status) : Prop := ∃ t, exec c s = .next t ∧ t.link.response.map (·.status) = some x ∧
      (x ≠ .ok → x ≠ .accepted → t = s.answered x [])
    let row (recovering unformatted formatting disarmed armed rolling broken : Status) : Status :=
      match s.engine.state with
      | .recovering => recovering
      | .unformatted => unformatted
      | .formatting => formatting
      | .disarmed => disarmed
      | .armed => armed
      | .rolling => rolling
      | .broken => broken
      | .halted => .halted
    let allBusy : Status := row .busy .busy .busy .busy .busy .busy .busy
    let busyFormatted : Status := row .busy .notFormatted .busy .busy .busy .busy .busy
    let allowed (k : Byte) : Prop := k.toNat < 8 ∧ 32 * (256 * 2 ^ k.toNat) ≤ s.memorySize / 4
    (answers .install (row .busy .ok .ok .ok .wrongState .busy .ok)) ∧
    (s.engineFree →
      answers (.arm 0) (row .busy .notFormatted .busy .accepted .wrongState .busy .wrongState) ∧
      answers (.arm 1) (row .busy .notFormatted .busy .accepted .wrongState .busy .wrongState) ∧
      answers .disarm (row .busy .wrongState .busy .wrongState .accepted .busy .wrongState) ∧
      answers .mark (row .busy .wrongState .busy .wrongState .accepted .busy .wrongState) ∧
      (∀ n : Byte, 1 ≤ n.toNat → n.toNat ≤ 16 →
        answers (.release n) (row .busy .notFormatted .busy .accepted .accepted .busy .wrongState)) ∧
      (∀ d : Byte, ¬ s.hostReleases →
        let taken : Status := if 1 ≤ d.toNat ∧ d.toNat ≤ s.engine.journal.marks.length then .accepted else .badArg
        answers (.rollback d) (row .busy .notFormatted .busy (if s.engine.journal.fill = 0 then .wrongState else taken)
          (if s.engine.journal.lapsed = true then .wrongState else taken) .busy .wrongState)) ∧
      answers .discard (row .busy .notFormatted .busy (if s.engine.journal.fill = 0 then .ok else .accepted) .wrongState
        .busy .wrongState) ∧
      (∀ k : Byte, allowed k → answers (.format k) (row .busy .accepted .busy .accepted .wrongState .busy .accepted)) ∧
      (∀ n : BitVec 16, let taken : Status := if n.toNat < s.engine.slots then .accepted else .badArg
        answers (.peek n) (row .busy .notFormatted .busy taken taken .busy taken))) ∧
    (s.engine.state ≠ .halted →
      (∀ a : Byte, 1 < a.toNat → answers (.arm a) .badArg) ∧
      (∀ n : Byte, n.toNat = 0 ∨ 16 < n.toNat → answers (.release n) .badArg) ∧
      (∀ k : Byte, ¬ allowed k → answers (.format k) .badArg)) ∧
    (s.engine.jobs ≠ [] ∨ s.jobServed ∨ s.engine.exclusive ≠ none →
      answers (.arm 0) busyFormatted ∧ answers (.arm 1) busyFormatted ∧ answers .disarm allBusy ∧
      answers .discard busyFormatted ∧ (∀ d, answers (.rollback d) busyFormatted) ∧
      ∀ k, allowed k → answers (.format k) allBusy) ∧
    (s.hostReleases → ∀ d, answers (.rollback d) busyFormatted) ∧
    (s.engine.exclusive ≠ none → answers .mark allBusy) ∧
    (s.engine.exclusive ≠ none ∨ (∃ m, Job.release m ∈ s.engine.jobs) →
      ∀ n : Byte, 1 ≤ n.toNat → n.toNat ≤ 16 → answers (.release n) busyFormatted) ∧
    (s.engine.exclusive ≠ none ∨ (∃ m, Job.peek m ∈ s.engine.jobs) ∨ (∃ m k, s.working (.peek m k)) →
      ∀ n, answers (.peek n) busyFormatted)

/-- R87, R89, R21, R117: with no job and no exclusive operation, whatever a host tenancy does, ARM while DISARMED, DISARM
while ARMED and DISCARD of a retained journal begin their exclusive operation, ARM keeping its action; DISCARD of an empty
journal sets RELEASE_DONE at once. Nothing else changes. -/
def Obligations.ExclusiveCommandsAreTaken : Prop :=
  ∀ s : State, s.engineListens → s.engineFree →
    (s.engine.state = .disarmed →
      exec (.arm 0) s = .next ({ s with engine := { s.engine with exclusive := some (.arm .keep) } }.answered .accepted []) ∧
      exec (.arm 1) s = .next ({ s with engine := { s.engine with exclusive := some (.arm .revert) } }.answered .accepted []) ∧
      exec .discard s = .next (if s.engine.journal.fill = 0 then (s.flagged (BitVec.twoPow 25 15)).answered .ok []
        else { s with engine := { s.engine with exclusive := some .discard } }.answered .accepted [])) ∧
    (s.engine.state = .armed →
      exec .disarm s = .next ({ s with engine := { s.engine with exclusive := some .disarm } }.answered .accepted []))

/-- R80, R75: MARK while ARMED joins COMMAND to the pending set, and queues a MARK job behind the jobs there when the set was
empty. R19: RELEASE(n) queues a RELEASE job. R121: PEEK(slot) queues a PEEK job and makes the peek buffer PENDING. Nothing
else changes. -/
def Obligations.JobCommandsAreQueued : Prop :=
  ∀ s : State, s.engineListens → s.engine.exclusive = none →
    (s.engine.state = .armed →
      exec .mark s = .next ({ s with engine := { s.engine with
        markPending := s.engine.markPending ||| 1
        jobs := if s.engine.markPending = 0 then s.engine.jobs ++ [Job.mark] else s.engine.jobs } }.answered .accepted [])) ∧
    (∀ n : Byte, 1 ≤ n.toNat → n.toNat ≤ 16 → s.engine.state = .armed ∨ s.engine.state = .disarmed →
      (∀ m, Job.release m ∉ s.engine.jobs) →
      exec (.release n) s = .next ({ s with engine := { s.engine with
        jobs := s.engine.jobs ++ [Job.release n.toNat] } }.answered .accepted [])) ∧
    (∀ n : BitVec 16, n.toNat < s.engine.slots →
      s.engine.state = .armed ∨ s.engine.state = .disarmed ∨ s.engine.state = .broken →
      (∀ m, Job.peek m ∉ s.engine.jobs) → (∀ m r, ¬ s.working (.peek m r)) →
      exec (.peek n) s = .next ({ s with engine := { s.engine with
        jobs := s.engine.jobs ++ [Job.peek n.toNat]
        peek := .pending } }.answered .accepted []))

/-- R94, R95, R96: ROLLBACK(d) taken makes the engine ROLLING with the element d places from the newest as target, the origin
recorded, phase FREEZE, steps remaining the slots after the target, and the touched set empty. A host tenancy in progress
that makes no release does not bar it (R117). The record's position and expected sequence are left open here: they have the
spec's values from the ANCHOR grant on (log entry 30). -/
def Obligations.RollbackFixesItsTarget : Prop :=
  ∀ (d : Byte) (m : MarkElement) (s : State), s.engineListens → s.engineFree → ¬ s.hostReleases →
    1 ≤ d.toNat → d.toNat ≤ s.engine.journal.marks.length →
    s.engine.journal.marks[s.engine.journal.marks.length - d.toNat]? = some m →
    (s.engine.state = .armed ∧ s.engine.journal.lapsed = false ∨
      s.engine.state = .disarmed ∧ s.engine.journal.fill ≠ 0) →
    ∃ r, exec (.rollback d) s = .next ({ s with engine := { s.engine with
        state := .rolling
        exclusive := some .rollback
        rollback := some r
        steps := slotsFrom s.engine.slots ((m.slot + 1) % s.engine.slots) s.engine.journal.tail
        journal := { s.engine.journal with touched := [] } } }.answered .accepted []) ∧
      r.targetSlot = m.slot ∧ r.targetSequence = m.sequence ∧ r.targetEpoch = m.epoch ∧ r.phase = .freeze ∧
      r.origin = if s.engine.state = .armed then .armed else .disarmed

/-- R129: FORMAT taken enters FORMATTING with the new size code in force, the in-chip journal empty from slot 0 with next
sequence 1, and the STATUS field at S; the clearing tenancy is next. A host tenancy in progress does not bar it (R117). -/
def Obligations.FormatIsTaken : Prop :=
  ∀ (k : Fin 8) (s : State), s.engineListens → s.engineFree →
    s.engine.state = .unformatted ∨ s.engine.state = .disarmed ∨ s.engine.state = .broken →
    32 * (256 * 2 ^ k.val) ≤ s.memorySize / 4 →
    exec (.format (BitVec.ofNat 8 k.val)) s = .next ({ s with engine := { s.engine with
      state := .formatting
      geometry := some k
      journal := ⟨0, 0, 0, 1, 0, 0, [], [], false⟩
      steps := 256 * 2 ^ k.val
      exclusive := some (.format .anchors) } }.answered .accepted [])

/-- R41, R184: TABLE_WRITE gives each field its mask names to the staged entry, keeps the others, and sets the entry's
pending flag, when the fields named decode, and the range the entry would have is made of whole 256-byte blocks of this
memory. An index above 11, a mask bit beyond the nine, a named field without a named value, or a range that fails is BAD_ARG
and changes nothing. -/
def Obligations.TableWriteStagesTheNamedFields : Prop :=
  (∀ (i : Fin 12) (mask : BitVec 16) (f : TableFields) (c : RegionConfig) (s : State),
    s.serving → s.control.halted = false → mask.toNat < 2 ^ 9 →
    (if mask.getLsbD 0 then f.enabled.toNat = c.enabled.toNat else c.enabled = s.regions.staged[i].config.enabled) →
    c.base = (if mask.getLsbD 1 then f.base else s.regions.staged[i].config.base) →
    c.limit = (if mask.getLsbD 2 then f.limit else s.regions.staged[i].config.limit) →
    (if mask.getLsbD 3 then f.mode.toNat = c.mode.code else c.mode = s.regions.staged[i].config.mode) →
    (if mask.getLsbD 4 then f.target.toNat = c.target.code else c.target = s.regions.staged[i].config.target) →
    c.compareValue = (if mask.getLsbD 5 then f.compareValue else s.regions.staged[i].config.compareValue) →
    (if mask.getLsbD 6 then f.action.toNat = c.compareAction.code
      else c.compareAction = s.regions.staged[i].config.compareAction) →
    (if mask.getLsbD 7 then f.ring.toNat = c.ring.toNat else c.ring = s.regions.staged[i].config.ring) →
    c.base.toNat % 256 = 0 → c.limit.toNat % 256 = 0 → c.base.toNat ≤ c.limit.toNat →
    c.limit.toNat + 256 ≤ s.memorySize →
    exec (.tableWrite (BitVec.ofNat 8 i.val) mask f) s = .next ({ s with
      regions := { s.regions with
        staged := s.regions.staged.set i
          ⟨c, if mask.getLsbD 8 then some f.preset else s.regions.staged[i].preset, true⟩ } }.answered .ok [])) ∧
  ∀ (mask : BitVec 16) (f : TableFields) (s : State), s.serving → s.control.halted = false →
    (∀ index : Byte, 11 < index.toNat → exec (.tableWrite index mask f) s = .next (s.answered .badArg [])) ∧
    ∀ i : Fin 12,
      let base : Addr := if mask.getLsbD 1 then f.base else s.regions.staged[i].config.base
      let limit : Addr := if mask.getLsbD 2 then f.limit else s.regions.staged[i].config.limit
      2 ^ 9 ≤ mask.toNat ∨ mask.getLsbD 0 = true ∧ 1 < f.enabled.toNat ∨ mask.getLsbD 3 = true ∧ 2 < f.mode.toNat ∨
        mask.getLsbD 4 = true ∧ 2 < f.target.toNat ∨ mask.getLsbD 6 = true ∧ 2 < f.action.toNat ∨
        mask.getLsbD 7 = true ∧ 1 < f.ring.toNat ∨ base.toNat % 256 ≠ 0 ∨ limit.toNat % 256 ≠ 0 ∨
        limit.toNat < base.toNat ∨ s.memorySize < limit.toNat + 256 →
      exec (.tableWrite (BitVec.ofNat 8 i.val) mask f) s = .next (s.answered .badArg [])

/-- R44, R46: INSTALL, outside ARMED, ROLLING, RECOVERING and HALTED, gives each active entry its staged settings where the
staged entry's pending flag is set, its counter the preset where one stands, and keeps its hit flag; it takes the pending
default mode, and leaves nothing pending. The preset of an installed entry is gone; a staged entry that was not pending keeps
its preset, and every staged entry its settings. -/
def Obligations.InstallCopiesThePendingSettings : Prop :=
  ∀ s : State, s.serving → s.control.halted = false →
    s.engine.state = .unformatted ∨ s.engine.state = .formatting ∨ s.engine.state = .disarmed ∨ s.engine.state = .broken →
    ∃ r : RegionTable, exec .install s = .next ({ s with regions := r }.answered .ok []) ∧
      (∀ i : Fin 12, r.active[i].config =
        if s.regions.staged[i].installs then s.regions.staged[i].config else s.regions.active[i].config) ∧
      (∀ i : Fin 12, r.active[i].counter = match s.regions.staged[i].installs, s.regions.staged[i].preset with
        | true, some p => p
        | _, _ => s.regions.active[i].counter) ∧
      (∀ i : Fin 12, r.active[i].hit = s.regions.active[i].hit) ∧
      (∀ i : Fin 12, r.staged[i].config = s.regions.staged[i].config ∧ r.staged[i].installs = false ∧
        r.staged[i].preset = if s.regions.staged[i].installs then none else s.regions.staged[i].preset) ∧
      r.activeDefault = (if s.regions.defaultInstalls then s.regions.stagedDefault else s.regions.activeDefault) ∧
      r.stagedDefault = s.regions.stagedDefault ∧ r.defaultInstalls = false

/-- R152, R184: CAPTURE_SET gives the slot its settings, with an empty record, count and toggle 0, and phase OFF in mode OFF
and ACTIVE otherwise; a filter naming a region goes with the causes COMPARE, LOCKED_WRITE and FAULT alone. Any other, and a
slot above 3, a mode above EVERY, a cause above POWER_FAIL or a filter that is neither ANY nor a region index, is BAD_ARG and
changes nothing. -/
def Obligations.CaptureSetStartsTheSlot : Prop :=
  ∀ s : State, s.serving → s.control.halted = false →
    (∀ (i : Fin 4) (m : CaptureMode) (c : CaptureCause) (f : Option (Fin 12)),
      exec (.captureSet (BitVec.ofNat 8 i.val) (BitVec.ofNat 8 m.code) (BitVec.ofNat 8 c.code) (filterCode f)) s = .next (
        if f.isNone ∨ c = .compare ∨ c = .lockedWrite ∨ c = .fault then
          { s with
            captures := s.captures.set i ⟨m, if m = CaptureMode.off then .off else .active, c, f, false, 0, none⟩ }.answered
              .ok []
        else s.answered .badArg [])) ∧
    (∀ slot mode cause filter : Byte,
      3 < slot.toNat ∨ 2 < mode.toNat ∨ 7 < cause.toNat ∨ 11 < filter.toNat ∧ filter.toNat ≠ 255 →
      exec (.captureSet slot mode cause filter) s = .next (s.answered .badArg []))

/-- R158, R184: ACK_EVENTS clears the flags it names, BAD_ARG when it names a position that is no flag; R40: naming
COMPARE_MATCH, it clears every hit flag too. -/
def Obligations.AckEventsClearsTheNamedFlags : Prop :=
  ∀ (v : Word) (s : State), s.serving →
    (2 ^ 25 ≤ v.toNat → exec (.ackEvents v) s = .next (s.answered .badArg [])) ∧
    (v.toNat < 2 ^ 25 → ∃ r : RegionTable,
      exec (.ackEvents v) s = .next ({ s with
        events := { s.events with flags := s.events.flags &&& ~~~(v.setWidth 25) }
        regions := r }.answered .ok []) ∧
      (v.getLsbD 9 = false → r = s.regions) ∧
      (v.getLsbD 9 = true → r.staged = s.regions.staged ∧ r.activeDefault = s.regions.activeDefault ∧
        r.stagedDefault = s.regions.stagedDefault ∧ r.defaultInstalls = s.regions.defaultInstalls ∧
        ∀ i : Fin 12, r.active[i] = { s.regions.active[i] with hit := false }))

/-- R181: RESTART is WRONG_STATE while PFAIL is asserted, OK without effect while a restart is pending, and otherwise OK with
a restart pending and HALTED clear; R71: a held or waiting word is answered RESTART, the rest of a write SKIPPED, and the
next word of a read is taken under R50, to wait or be held; a granted word goes on. R69 offers each FAULT answer (a write's
without lanes too, log entry 28). That an engine still in HALTED answers a read's next words POWER_FAIL is the model's
reading (log entry 14). That a HALTED set anew while the restart was pending stays set is the model's choice between R142 and
R181 (log entry 24). -/
def Obligations.RestartBecomesPending : Prop :=
  ∀ s : State, s.serving →
    (s.control.pfail = true → exec .restart s = .next (s.answered .wrongState [])) ∧
    (s.control.pfail = false → s.control.restartPending = true → exec .restart s = .next (s.answered .ok [])) ∧
    (s.control.pfail = false → s.control.restartPending = false →
      (∀ c, s.host.current = some c → c.phase = .granted) →
      exec .restart s = .next ({ s with control := { s.control with halted := false, restartPending := true } }.answered
        .ok [])) ∧
    (∀ c, s.control.pfail = false → s.control.restartPending = false → s.host.current = some c → c.waits →
      ∃ t rest, exec .restart s = .next t ∧
        t.link = ⟨.turnaround, s.link.ignoring, some ⟨.ok, []⟩⟩ ∧
        t.control = { s.control with halted := false, restartPending := true } ∧
        t.host.answers = s.host.answers ++ faultTo c.kind .restart :: rest ∧
        { s with control := { s.control with halted := false, restartPending := true } }.faultAnswered c .restart t ∧
        t.engine.journal = s.engine.journal ∧ t.engine.state = s.engine.state ∧ t.port = s.port ∧
        t.settings = s.settings)

/-! ## Shared operations: captures, mark requests, counts, regions -/

/-- R145, R146, R148, R149, R151: an offer is taken by each slot that is ACTIVE, of its cause, with a filter that accepts it;
such a slot holds the new record with the fixed fields of this moment, its toggle flipped, its count 1 and its phase HELD in
mode FIRST, its count one higher up to 255 in mode EVERY, and its CAPTURE flag is set; every other slot and block stays. -/
def Obligations.OfferIsCapturedByTheSlotsThatTakeIt : Prop :=
  ∀ (o : Offer) (s : State) (i : Fin 4),
    let r : CaptureRecord := ⟨o.cause, s.sources.stamp, s.engine.state,
      decide (s.engine.state = .armed ∧ s.engine.journal.lapsed = true), s.engine.journal.fill,
      s.engine.journal.nextSequence, s.engine.journal.epoch, o.word, o.writeData, o.region, o.faultCause, o.sources⟩
    let c : CaptureSlot := s.captures[i]
    let t : State := offer o s
    (c.phase = .active ∧ c.cause = o.cause ∧ (c.filter = none ∨ c.filter = o.region) ∧ c.mode ≠ .off →
      t.captures[i] = ⟨c.mode, if c.mode = .first then .held else .active, c.cause, c.filter, !c.toggle,
        if c.mode = .first then 1 else min 255 (c.count + 1), some r⟩ ∧ t.events.flags.getLsbD (10 + i.val) = true) ∧
    (¬ (c.phase = .active ∧ c.cause = o.cause ∧ (c.filter = none ∨ c.filter = o.region)) →
      t.captures[i] = c ∧ t.events.flags.getLsbD (10 + i.val) = s.events.flags.getLsbD (10 + i.val)) ∧
    (∀ n, n < 10 ∨ 13 < n → t.events.flags.getLsbD n = s.events.flags.getLsbD n) ∧
    t.events.enables = s.events.enables ∧
    t = { s with captures := t.captures, events := t.events }

/-- R74, R75, R91: a request while ARMED joins the pending set, and queues a MARK job when the set was empty and no exclusive
operation runs; while ROLLING it is dropped with MARK_MISSED; in every other state it is ignored. -/
def Obligations.MarkRequestByEngineState : Prop :=
  ∀ (x : Source) (s : State),
    (s.engine.state = .armed →
      requestMark x s = { s with engine := { s.engine with
        markPending := s.engine.markPending ||| BitVec.twoPow 5 x.bit
        jobs := if s.engine.markPending = 0 ∧ s.engine.exclusive = none then s.engine.jobs ++ [Job.mark]
          else s.engine.jobs } }) ∧
    (s.engine.state = .rolling → requestMark x s = s.flagged (BitVec.twoPow 25 1)) ∧
    (s.engine.state ≠ .armed → s.engine.state ≠ .rolling → requestMark x s = s)

/-- R30, R31: a word resolves to the lowest-numbered enabled active entry whose range, base to limit + 255, contains it, and
to that entry's mode; with none, to no region and the active default mode. R35, R37, R38, R39: a count adds one to the
entry's counter, modulo 2^32; where the compare action is not NONE and the new value equals the compare value, the hit flag
and COMPARE_MATCH are set, the match is offered with the entry's index, action MARK makes a COMPARE request, and with ring
the counter becomes 0. -/
def Obligations.RegionsResolveAndCount : Prop :=
  ∀ s : State,
    (∀ a : Nat,
      let inside (i : Fin 12) : Prop := s.regions.active[i].config.enabled = true ∧
        s.regions.active[i].config.base.toNat ≤ a ∧ a ≤ s.regions.active[i].config.limit.toNat + 255
      (∀ i : Fin 12, inside i → (∀ j : Fin 12, j < i → ¬ inside j) →
        s.regions.resolve a = ⟨s.regions.active[i].config.mode, some i⟩) ∧
      ((∀ i : Fin 12, ¬ inside i) → s.regions.resolve a = ⟨s.regions.activeDefault, none⟩)) ∧
    (∀ i : Fin 12,
      let e : ActiveEntry := s.regions.active[i]
      (e.config.compareAction = .none ∨ e.config.compareValue ≠ e.counter + 1 →
        countEntry i s = { s with regions := { s.regions with
          active := s.regions.active.set i { e with counter := e.counter + 1 } } }) ∧
      (e.config.compareAction ≠ .none → e.config.compareValue = e.counter + 1 →
        let matched : State := offer { cause := .compare, region := some i } { s.flagged (BitVec.twoPow 25 9) with
          regions := { s.regions with
            active := s.regions.active.set i { e with hit := true, counter := e.counter + 1 } } }
        let acted : State := if e.config.compareAction = .mark then requestMark .compare matched else matched
        countEntry i s = if e.config.ring then { acted with regions := { acted.regions with
          active := acted.regions.active.set i { e with hit := true, counter := 0 } } } else acted))

/-! ## The host port -/

/-- R49, R50, R53: an IDLE port takes an access; its first word, in data space and no write without lanes, with the part not
HALTED, asks for the memory port, and in recovery is held at once with its timer started. R185: a request met while an access
is in progress stays presented and changes nothing else, and the answer of an access's last word takes the request presented
longest as if it came then. That requests stay presented oldest first is the model's choice (log entry 27). -/
def Obligations.HostAccessAsksOrIsHeld : Prop :=
  ∀ (kind : AccessKind) (address : Addr) (words : List HostWord) (s : State),
    s.control.resetHeld = false → requestWellFormed address words = true →
    (s.host.current = none → s.host.presented = [] → s.control.halted = false → s.engine.state ≠ .halted →
      address.toNat < s.dataSpaceEnd → (kind = .write → ∀ w, words.head? = some w → w.lanes ≠ 0) →
      exec (.hostAccess kind address words) s = .next { s with host := ⟨some ⟨kind, address, words, 0, false,
        if s.engine.inRecovery = true then WordPhase.held else .waiting,
        if s.engine.inRecovery = true then some 0 else none, none⟩, s.host.answers, []⟩ }) ∧
    (s.host.current ≠ none → exec (.hostAccess kind address words) s =
      .next { s with host := { s.host with presented := s.host.presented ++ [⟨kind, address, words⟩] } }) ∧
    (∀ (a : WordResult) (more : List HostRequest), s.host.current ≠ none → s.host.presented = ⟨kind, address, words⟩ :: more →
      let u : State := answerWord a { s with host := { s.host with presented := [] } }
      (u.host.current ≠ none → answerWord a s = { u with host := { u.host with presented := s.host.presented } }) ∧
      (u.host.current = none → ∃ t, exec (.hostAccess kind address words) u = .next t ∧ (more = [] → answerWord a s = t) ∧
        (t.host.current ≠ none → answerWord a s = { t with host := { t.host with presented := more } })))

/-- R50, R51, R68: an access whose first word lies outside data space is answered OUT_OF_SPACE, and one taken while the part
is HALTED POWER_FAIL; the rest of a write is SKIPPED, and the rest of a read answered as its first word is. The port is IDLE
again, the cause's flag is set, and no access is made. R69, R147: each FAULT answer is offered with its word's address, kind,
byte lanes and write data, and its cause; that a write without lanes is offered too is the model's reading (log entry 28).
R50 check 3: write words with no byte lanes, inside data space with the part not HALTED, are answered DONE one by one, and
have no other effect. -/
def Obligations.EntryChecksAnswerAtOnce : Prop :=
  ∀ (kind : AccessKind) (address : Addr) (words : List HostWord) (s : State),
    s.control.resetHeld = false → s.host.current = none → s.host.presented = [] → requestWellFormed address words = true →
    let halted : Prop := s.control.halted = true ∨ s.engine.state = .halted
    let word : HostAccess := ⟨kind, address, words, 0, false, .entry, none, none⟩
    let after (x : FaultCause) : FaultCause := if kind = .write then .skipped else x
    (halted ∨ s.dataSpaceEnd ≤ address.toNat →
      ∃ t x, exec (.hostAccess kind address words) s = .next t ∧
        (halted → x = .powerFail) ∧ (¬ halted → x = .outOfSpace) ∧
        t.host = ⟨none, s.host.answers ++ faultTo kind x ::
          List.replicate (words.length - 1) (faultTo kind (after x)), []⟩ ∧
        t.captures = (s.faultedThrough word x (after x)).captures ∧ t.events = (s.faultedThrough word x (after x)).events ∧
        t.engine = s.engine ∧ t.settings = s.settings ∧ t.port = s.port ∧ t.regions = s.regions ∧
        t.sources = s.sources ∧ t.link = s.link ∧ t.control = s.control) ∧
    (¬ halted → kind = .write → address.toNat + 4 * words.length ≤ s.dataSpaceEnd → (∀ w ∈ words, w.lanes = 0) →
      exec (.hostAccess kind address words) s =
        .next { s with host := ⟨none, s.host.answers ++ List.replicate words.length (.done none), []⟩ })

/-- R52, R54, R65: a granted read is forwarded, but for a JOURNAL or LOCKED read in ROLLING, which is held with the port
given back and its timer started unless it runs. -/
def Obligations.GrantedReadIsForwardedOrHeld : Prop :=
  ∀ (c : HostAccess) (s : State), s.grantsHost = true → s.host.current = some c → c.kind = .read →
    let g : Resolution := s.regions.resolve c.wordAddress
    (g.mode = .pass ∨ s.engine.state ≠ .rolling →
      exec .hostTenancy s = .next { s with
        port := ⟨some (reading .hostRead c.wordAddress 1), .host⟩
        host := { s.host with current := some { c with phase := .granted, grant := some g } } }) ∧
    (g.mode ≠ .pass → s.engine.state = .rolling →
      exec .hostTenancy s = .next { s with
        port := ⟨none, .host⟩
        host := { s.host with
          current := some { c with phase := .held, hold := some (c.hold.getD 0), grant := none } } })

/-- R55, R57, R58, R59, R65 (Table 3-1): what a granted write issues. PASS writes are forwarded in every state; JOURNAL
writes are forwarded in UNFORMATTED, FORMATTING, DISARMED with an empty journal, ARMED while LAPSED and ARMED with the word
in the touched set; with a retained journal DISARMED first writes the anchor FRESH; ARMED with free 2 or more first reads the
old value; ROLLING holds the word. -/
def Obligations.GrantedWriteByStateAndMode : Prop :=
  ∀ (c : HostAccess) (s : State), s.grantsHost = true → s.host.current = some c → c.kind = .write →
    let g : Resolution := s.regions.resolve c.wordAddress
    let granted (t : Tenancy) : State := { s with
      port := ⟨some t, .host⟩
      host := { s.host with current := some { c with phase := .granted, grant := some g } } }
    let j : Journal := s.engine.journal
    let forwards : Prop := g.mode = .pass ∨ g.mode = .journal ∧
      (s.engine.state = .unformatted ∨ s.engine.state = .formatting ∨ s.engine.state = .disarmed ∧ j.fill = 0 ∨
        s.engine.state = .armed ∧ (j.lapsed = true ∨ c.wordAddress ∈ j.touched))
    (forwards → exec .hostTenancy s = .next (granted ⟨.hostWrite, .write c.wordAddress c.word.lanes c.word.data []⟩)) ∧
    (g.mode = .journal → s.engine.state = .armed → j.lapsed = false → c.wordAddress ∉ j.touched →
      2 ≤ s.engine.slots - j.fill →
      exec .hostTenancy s = .next (granted (reading .hostOldValue c.wordAddress 1))) ∧
    (g.mode = .journal → s.engine.state = .disarmed → j.fill ≠ 0 →
      exec .hostTenancy s = .next (granted (s.anchorWriting .hostFirstWrite
        (s.anchorNow .fresh .keep j.tail j.nextSequence 0 j.epoch)))) ∧
    (g.mode = .journal → s.engine.state = .rolling →
      exec .hostTenancy s = .next { s with
        port := ⟨none, .host⟩
        host := { s.host with
          current := some { c with phase := .held, hold := some (c.hold.getD 0), grant := none } } })

/-- R56, R57, R25, R51, R68: a granted write that resolves to LOCKED is answered LOCKED_WRITE, one that resolves to JOURNAL
in BROKEN is answered BROKEN_WRITE, and a journaled write with free below 2 under REFUSE is answered JOURNAL_FULL; the
cause's flag is set, the rest of the access is SKIPPED, and the port is given back with no access made. R56, R69, R147: a
LOCKED_WRITE answer is offered as LOCKED_WRITE and then as FAULT, any other as FAULT alone, with the word's address, kind,
byte lanes and data and the region of its grant, and as FAULT with the cause; each SKIPPED word is offered as FAULT without a
region, one without lanes too, which is the model's reading (log entry 28). -/
def Obligations.GrantedWriteRefused : Prop :=
  ∀ (c : HostAccess) (x : FaultCause) (s : State),
    s.grantsHost = true → s.host.current = some c → c.kind = .write → c.position < c.words.length →
    let g : Resolution := s.regions.resolve c.wordAddress
    (g.mode = .locked ∧ x = .lockedWrite ∨ g.mode = .journal ∧ s.engine.state = .broken ∧ x = .brokenWrite ∨
      g.mode = .journal ∧ s.engine.state = .armed ∧ s.engine.journal.lapsed = false ∧
        c.wordAddress ∉ s.engine.journal.touched ∧ s.engine.slots - s.engine.journal.fill < 2 ∧
        s.settings.fullPolicy = .refuse ∧ x = .journalFull) →
    ∃ t rest, exec .hostTenancy s = .next t ∧
      t.host.answers = s.host.answers ++ faultTo .write x ::
        List.replicate (c.words.length - c.position - 1) (faultTo .write .skipped) ++ rest ∧
      (s.host.presented = [] → rest = [] ∧ t.host.current = none ∧
        let u : State := s.faultedThrough { c with phase := .granted, grant := some g } x .skipped
        t.captures = u.captures ∧ t.events = u.events) ∧
      (∀ f, x.flag = some f → hasFlag t.events.flags f = true) ∧
      t.port = ⟨none, .host⟩ ∧ t.engine = s.engine ∧ t.regions = s.regions ∧ t.sources = s.sources ∧
      t.settings = s.settings ∧ t.link = s.link ∧ t.control = s.control

/-- R61, R24, R26, R27: a journaled write with free below 2 is held under STALL with no access; under RELEASE it writes the
anchor OPEN with the second mark as head while two marks stand; under LOSE, or RELEASE with fewer, it writes the anchor
FRESH. -/
def Obligations.FullPolicyDecides : Prop :=
  ∀ (c : HostAccess) (s : State), s.grantsHost = true → s.host.current = some c → c.kind = .write →
    let g : Resolution := s.regions.resolve c.wordAddress
    let j : Journal := s.engine.journal
    let granted (t : Tenancy) : State := { s with
      port := ⟨some t, .host⟩
      host := { s.host with current := some { c with phase := .granted, grant := some g } } }
    g.mode = .journal → s.engine.state = .armed → j.lapsed = false → c.wordAddress ∉ j.touched →
    s.engine.slots - j.fill < 2 →
    (s.settings.fullPolicy = .stall →
      exec .hostTenancy s = .next { s with
        port := ⟨none, .host⟩
        host := { s.host with
          current := some { c with phase := .held, hold := some (c.hold.getD 0), grant := none } } }) ∧
    (∀ m1 m2 rest, s.settings.fullPolicy = .release → j.marks = m1 :: m2 :: rest →
      exec .hostTenancy s = .next (granted (s.anchorWriting .hostRelease
        (s.anchorNow .opened s.engine.action m2.slot m2.sequence 0 j.epoch)))) ∧
    (s.settings.fullPolicy = .lose ∨ s.settings.fullPolicy = .release ∧ j.marks.length < 2 →
      exec .hostTenancy s = .next (granted (s.anchorWriting .hostLose
        (s.anchorNow .fresh .keep j.tail j.nextSequence 0 j.epoch))))

/-- R66, R68: when the time run by a held or waiting word has reached the hold limit in force, its expiry answers it
STALL_EXPIRED, sets the flag and offers the FAULT (R69; a write's without lanes too, log entry 28), the rest of a write
SKIPPED and the next word of a read taken (R51); it touches neither memory nor the journal, and the word's timer stops with
the word. Before that, with limit 0, and for a word in GRANTED, nothing expires (an expiry that cannot come about is the
model's, log entry 3). -/
def Obligations.HoldExpiryAnswersTheWord : Prop :=
  ∀ (c : HostAccess) (n : Nat) (s : State), s.host.current = some c → c.hold = some n →
    (c.waits → s.settings.holdLimit ≠ 0 → s.settings.holdLimit ≤ n →
      ∃ t rest, exec .holdExpiry s = .next t ∧
        t.host.answers = s.host.answers ++ faultTo c.kind .stallExpired :: rest ∧
        hasFlag t.events.flags .stallExpired = true ∧ s.faultAnswered c .stallExpired t ∧
        (∀ d, s.host.presented = [] → t.host.current = some d → c.position < d.position) ∧
        t.engine.journal = s.engine.journal ∧ t.engine.state = s.engine.state ∧ t.port = s.port ∧
        t.settings = s.settings ∧ t.link = s.link ∧ t.control = s.control) ∧
    (c.phase = .granted ∨ s.settings.holdLimit = 0 ∨ n < s.settings.holdLimit → exec .holdExpiry s = .next s)

/-! ## The mark sources -/

/-- R83, R84: when the remaining time has reached 0, a PERIODIC expiry makes a TIMER request and starts the timer again with
the full period; R85: a QUIET expiry makes a TIMER request and stops it. R81, R82: a turn of the MARK pin ends a candidate
whose time has not reached the filter; with none it begins one, or with filter 0 is a filtered change at once. A candidate
whose time has reached the filter makes the filtered change, also when the pin turns first, which then begins a candidate
anew. A filtered change turns the level and sets LINE_CHANGE; when the edge selection selects it, it is offered as LINE_EDGE
and asks for a mark with source LINE. A happening whose time has not come changes nothing: that is the model's choice (log
entry 3). -/
def Obligations.TimersAndLineMakeRequests : Prop :=
  ∀ s : State,
    (s.sources.timer = some 0 → s.settings.timerMode = .periodic →
      exec .periodicExpiry s = .next { requestMark .timer s with
        sources := { s.sources with timer := some s.settings.timerPeriod } }) ∧
    (s.sources.timer = some 0 → s.settings.timerMode = .quiet →
      exec .quietExpiry s = .next { requestMark .timer s with sources := { s.sources with timer := none } }) ∧
    (s.sources.timer ≠ some 0 → exec .periodicExpiry s = .next s ∧ exec .quietExpiry s = .next s) ∧
    (let filter : Nat := s.settings.lineFilter.micros
    let turned : State := { s.flagged (BitVec.twoPow 25 14) with
      sources := { s.sources with level := !s.sources.level, candidate := none } }
    let selected : Prop := s.settings.lineEdge = .both ∨ s.settings.lineEdge = .rise ∧ s.sources.level = false ∨
      s.settings.lineEdge = .fall ∧ s.sources.level = true
    let changed (t : State) : Prop :=
      (selected → t = requestMark .line (offer { cause := .lineEdge } turned)) ∧ (¬ selected → t = turned)
    (∀ n, s.sources.candidate = some n →
      (n < filter → exec .filteredChange s = .next s ∧ (s.control.resetHeld = false →
        exec .markPinChange s = .next { s with sources := { s.sources with candidate := none } })) ∧
      (filter ≤ n → ∃ t, exec .filteredChange s = .next t ∧ changed t ∧
        (s.control.resetHeld = false → s.settings.lineFilter ≠ .zero →
          exec .markPinChange s = .next { t with sources := { t.sources with candidate := some 0 } }))) ∧
    (s.sources.candidate = none → exec .filteredChange s = .next s ∧ (s.control.resetHeld = false →
      (s.settings.lineFilter ≠ .zero →
        exec .markPinChange s = .next { s with sources := { s.sources with candidate := some 0 } }) ∧
      (s.settings.lineFilter = .zero → ∃ t, exec .markPinChange s = .next t ∧ changed t))))

/-! ## Engine tenancies at their grants -/

/-- R76, R77: at the grant of the MARK job the pending set's sources become the mark's, the set is emptied, the job leaves
the queue and a QUIET timer stops. While ARMED the MARK entry is written at tail, or first, with free 0 or sixteen marks, the
anchor OPEN with the second mark as head; in any other state the job ends with MARK_MISSED and no access. -/
def Obligations.MarkTakeBeginsTheMark : Prop :=
  ∀ s : State, s.grantsEngine .markTake = true →
    let j : Journal := s.engine.journal
    let x : SourceSet := s.engine.markPending
    let k : Nat := s.settings.retainedLimit
    let t : State := { s with
      port := ⟨none, .engine⟩
      engine := { s.engine with jobs := s.engine.jobs.tail, markPending := 0 }
      sources := { s.sources with
        timer := if s.settings.timerMode = .quiet then none else s.sources.timer } }
    let full : Prop := s.engine.slots - j.fill = 0 ∨ 16 ≤ j.marks.length
    (s.engine.state ≠ .armed → exec .markTake s = .next (t.flagged (BitVec.twoPow 25 1))) ∧
    (s.engine.state = .armed → ¬ full →
      exec .markTake s = .next (t.engineTenancy (s.slotWriting (.markAppend x k s.sources.stamp) j.tail
        ⟨.mark, j.nextSequence, if j.fill = 0 then j.nextSequence - 1 else j.newestSequence, j.epoch + 1, x.setWidth 32,
          j.epoch + 1, s.sources.stamp⟩))) ∧
    (∀ m1 m2 rest, s.engine.state = .armed → full → j.marks = m1 :: m2 :: rest →
      exec .markTake s = .next (t.engineTenancy (s.anchorWriting (.markRoom x k)
        (s.anchorNow .opened s.engine.action m2.slot m2.sequence 0 j.epoch))))

/-- R88, R177: the arming tenancy reads the retained limit and writes a MARK entry with sources ARM at tail, or first, with
free 0 or sixteen marks, the anchor IDLE with the second mark as head. R90: the disarming tenancy writes the anchor FRESH
when the engine is LAPSED or the journal empty, else IDLE with the first mark as head, both with KEEP. Either ends at once
when the engine has become BROKEN meanwhile, the arming with MARK_MISSED, and R91 empties the pending set. -/
def Obligations.ArmingAndDisarmingBegin : Prop :=
  ∀ s : State,
    let j : Journal := s.engine.journal
    let k : Nat := s.settings.retainedLimit
    let full : Prop := s.engine.slots - j.fill = 0 ∨ 16 ≤ j.marks.length
    (∀ a : RestartAction, s.grantsEngine .arming = true → s.engine.exclusive = some (.arm a) →
      (s.engine.state = .broken →
        exec .arming s = .next { s.flagged (BitVec.twoPow 25 1) with
          port := ⟨none, .engine⟩
          engine := { s.engine with exclusive := none, markPending := 0 } }) ∧
      (s.engine.state ≠ .broken → ¬ full →
        exec .arming s = .next (s.engineTenancy (s.slotWriting (.armAppend a k s.sources.stamp) j.tail
          ⟨.mark, j.nextSequence, if j.fill = 0 then j.nextSequence - 1 else j.newestSequence, j.epoch + 1, 2, j.epoch + 1,
            s.sources.stamp⟩))) ∧
      (∀ m1 m2 rest, s.engine.state ≠ .broken → full → j.marks = m1 :: m2 :: rest →
        exec .arming s = .next (s.engineTenancy (s.anchorWriting (.armRoom a k)
          (s.anchorNow .idle .keep m2.slot m2.sequence 0 j.epoch))))) ∧
    (s.grantsEngine .disarming = true → s.engine.exclusive = some .disarm →
      (s.engine.state = .broken →
        exec .disarming s = .next { (if s.engine.markPending = 0 then s else s.flagged (BitVec.twoPow 25 1)) with
          port := ⟨none, .engine⟩
          engine := { s.engine with exclusive := none, markPending := 0 } }) ∧
      (s.engine.state ≠ .broken → j.lapsed = true ∨ j.fill = 0 →
        exec .disarming s = .next (s.engineTenancy (s.anchorWriting (.disarm true)
          (s.anchorNow .fresh .keep j.tail j.nextSequence 0 j.epoch)))) ∧
      (∀ m rest, s.engine.state ≠ .broken → j.lapsed = false → j.fill ≠ 0 → j.marks = m :: rest →
        exec .disarming s = .next (s.engineTenancy (s.anchorWriting (.disarm false)
          (s.anchorNow .idle .keep m.slot m.sequence 0 j.epoch)))))

/-- R19, R21, R122: the tenancies of RELEASE, DISCARD and PEEK. RELEASE releases the lesser of n and the mark count less one,
with one anchor write OPEN while ARMED and IDLE otherwise; when that is none it sets RELEASE_DONE at once. DISCARD writes the
anchor FRESH, or sets RELEASE_DONE at once on a journal emptied meanwhile. In BROKEN neither makes an access or sets
RELEASE_DONE. PEEK records whether its slot is retained and reads it. -/
def Obligations.ReleaseDiscardAndPeekBegin : Prop :=
  ∀ s : State,
    let j : Journal := s.engine.journal
    (∀ (n : Nat) (rest : List Job), s.grantsEngine .release = true → s.engine.jobs = .release n :: rest →
      let t : State := { s.engineGranted with engine := { s.engine with jobs := rest } }
      let r : Nat := min n (j.marks.length - 1)
      (s.engine.state = .broken → exec .releaseJob s = .next t) ∧
      (s.engine.state ≠ .broken → r = 0 → exec .releaseJob s = .next (t.flagged (BitVec.twoPow 25 15))) ∧
      (∀ m, s.engine.state ≠ .broken → r ≠ 0 → j.marks[r]? = some m →
        exec .releaseJob s = .next (t.engineTenancy (s.anchorWriting (.release r)
          (if s.engine.state = .armed then s.anchorNow .opened s.engine.action m.slot m.sequence 0 j.epoch
            else s.anchorNow .idle .keep m.slot m.sequence 0 j.epoch))))) ∧
    (s.grantsEngine .discard = true → s.engine.exclusive = some .discard → s.engine.markPending = 0 →
      let t : State := { s.engineGranted with engine := { s.engine with exclusive := none } }
      (s.engine.state = .broken → exec .discardTenancy s = .next t) ∧
      (s.engine.state ≠ .broken → j.fill = 0 → exec .discardTenancy s = .next (t.flagged (BitVec.twoPow 25 15))) ∧
      (s.engine.state ≠ .broken → j.fill ≠ 0 →
        exec .discardTenancy s = .next (s.engineTenancy (s.anchorWriting .discard
          (s.anchorNow .fresh .keep j.tail j.nextSequence 0 j.epoch))))) ∧
    (∀ (n : Nat) (rest : List Job), s.grantsEngine .peek = true → s.engine.jobs = .peek n :: rest →
      exec .peekJob s = .next { s.engineTenancy (reading
          (.peek n (decide (slotsFrom s.engine.slots j.head n < j.fill))) (s.slotAddress n) 8) with
        engine := { s.engine with jobs := rest } })

/-- R98, R99, R101: the ANCHOR tenancy fixes the restore range from the tail then standing and writes the anchor ROLLING with
the first mark as head (R12) and the target's sequence, its action the arming's from an ARMED origin and else KEEP; a restore
step reads the slot at the restore position; SETTLE writes the VOID, with the next sequence and a link to the target, into
the slot after the target, or, when that slot is head, the settle anchor: OPEN from an ARMED origin, else IDLE. -/
def Obligations.RollbackTenanciesBegin : Prop :=
  ∀ (r : RollbackRecord) (s : State), s.engine.rollback = some r →
    let j : Journal := s.engine.journal
    let n : Nat := s.engine.slots
    let action : RestartAction := if r.origin = .armed then s.engine.action else .keep
    (∀ m rest, s.grantsEngine .rollbackAnchor = true → j.marks = m :: rest →
      exec .rollbackAnchor s = .next { s.engineTenancy (s.anchorWriting .rollbackAnchor
          (s.anchorNow .rolling action m.slot m.sequence r.targetSequence j.epoch)) with
        engine := { s.engine with
          steps := slotsFrom n ((r.targetSlot + 1) % n) j.tail
          rollback := some { r with
            phase := .anchor
            position := (j.tail + n - 1) % n
            expected := j.newestSequence } } }) ∧
    (s.grantsEngine .restoreStep = true →
      exec .restoreStep s = .next (s.engineTenancy (reading .restoreRead (s.slotAddress r.position) 8))) ∧
    (s.grantsEngine .settle = true → (r.targetSlot + 1) % n ≠ j.head →
      exec .settle s = .next (s.engineTenancy (s.slotWriting .settleVoid ((r.targetSlot + 1) % n)
        ⟨.void, j.nextSequence, r.targetSequence, 0, 0, r.targetEpoch, s.sources.stamp⟩))) ∧
    (∀ m rest, s.grantsEngine .settle = true → (r.targetSlot + 1) % n = j.head → j.marks = m :: rest →
      exec .settle s = .next (s.engineTenancy (s.anchorWriting .settleAnchor
        (s.anchorNow (if r.origin = .armed then .opened else .idle) action m.slot m.sequence 0 r.targetEpoch))))

/-- R130, R131, R132, R135, R137: FORMAT's first tenancy writes eight zero words to the copy that is not current, copy A when
there is none, the other copy still to come; a clearing tenancy writes eight zero words to one slot; the final one writes the
anchor FRESH with head slot 0 and head sequence 1. Recovery reads the eight words of copy A, then of copy B, then of one slot
of the scan. That FORMAT's tenancies begin in BROKEN as in FORMATTING is the model's choice (log entry 31). -/
def Obligations.FormatAndRecoveryTenanciesBegin : Prop :=
  ∀ s : State,
    let first : Copy := match s.engine.anchor with
      | some (.a, _) => .b
      | _ => .a
    (s.grantsEngine .formatAnchors = true →
      exec .formatAnchorClear s = .next (s.engineTenancy (writing (.clearFirst first.other) (s.copyAddress first)
        (List.replicate 8 0)))) ∧
    (∀ n, s.grantsEngine .formatSlot = true → s.engine.exclusive = some (.format (.slot n)) →
      exec .formatSlotClear s =
        .next (s.engineTenancy (writing (.clearSlot n) (s.slotAddress n) (List.replicate 8 0)))) ∧
    (s.grantsEngine .formatFinal = true →
      exec .formatFinalAnchor s =
        .next (s.engineTenancy (s.anchorWriting .formatAnchor (s.anchorNow .fresh .keep 0 1 0 0)))) ∧
    (s.grantsEngine .recoveryRead = true → s.engine.recovery = some .copyA →
      exec .recoveryAnchorRead s = .next (s.engineTenancy (reading .readCopyA (s.memorySize - 64) 8))) ∧
    (∀ a, s.grantsEngine .recoveryRead = true → s.engine.recovery = some (.copyB a) →
      exec .recoveryAnchorRead s = .next (s.engineTenancy (reading (.readCopyB a) (s.memorySize - 32) 8))) ∧
    (∀ f slot, s.grantsEngine .scan = true → s.engine.recovery = some (.scan f slot) →
      exec .scanStep s = .next (s.engineTenancy (reading (.scan f slot) (s.slotAddress slot) 8)))

/-- R118: with the port free and both sides asking, the side other than the one granted last is granted and the other is not;
with one side asking, that side is; R53: while recovery is under way no host word is. R112: a port in use is granted to
neither. R66: a word whose hold has reached the limit is not granted. -/
def Obligations.ArbiterAlternates : Prop :=
  ∀ (r : Request) (s : State),
    (s.port.tenancy ≠ none → s.grantsHost = false ∧ s.grantsEngine r = false) ∧
    (s.engine.inRecovery = true → s.grantsHost = false) ∧
    (∀ c n, s.host.current = some c → c.hold = some n → s.settings.holdLimit ≠ 0 → s.settings.holdLimit ≤ n →
      s.grantsHost = false) ∧
    (s.port.tenancy = none → s.engineRequest = some r → s.hostRequest = true →
      (s.port.lastSide = .host → s.grantsEngine r = true ∧ s.grantsHost = false) ∧
      (s.port.lastSide = .engine → s.grantsHost = true ∧ s.grantsEngine r = false)) ∧
    (s.port.tenancy = none → s.engineRequest = some r → s.hostRequest = false → s.grantsEngine r = true) ∧
    (s.port.tenancy = none → s.engineRequest = none → s.hostRequest = true → s.grantsHost = true)

/-! ## Memory's answers -/

/-- R112, R119: when an access of a run is answered OK and more follow, the next one is issued at the next word address, a
read keeping the word read; nothing else changes. -/
def Obligations.NextAccessIsIssued : Prop :=
  ∀ (w : Work) (d : Word) (s : State),
    (∀ a l x y rest, s.port.tenancy = some ⟨w, .write a l x (y :: rest)⟩ →
      exec (.memoryAnswer true d) s =
        .next { s with port := ⟨some ⟨w, .write (a + 4) l y rest⟩, s.port.lastSide⟩ }) ∧
    (∀ a n got, s.port.tenancy = some ⟨w, .read a (n + 1) got⟩ →
      exec (.memoryAnswer true d) s =
        .next { s with port := ⟨some ⟨w, .read (a + 4) n (got ++ [d])⟩, s.port.lastSide⟩ })

/-- R54, R55, R62, R63, R64, R68: the forwarded read or write answered OK is answered DONE, the read with the word read; an
ERROR at the forward, the old-value read or the UNDO slot write is answered MEMORY_FAULT with the flag set, a read with zero.
The port is given back, the access goes on past the word, and the in-chip journal stays. R35, R37 to R39: a DONE word counts
in its region, a write where the target is WRITES and a read where it is READS, whatever the compare action, and nowhere
else. R69, R85: a JOURNAL write answered DONE while ARMED starts the QUIET timer again; a FAULT answer is offered to the
capture slots (a write's without lanes too, log entry 28), the rest of a write SKIPPED and the next word of a read taken.
With the last word of the access answered DONE and no request presented, the port is IDLE and that is all. -/
def Obligations.ForwardedWordIsAnswered : Prop :=
  ∀ (c : HostAccess) (d : Word) (s : State), s.host.current = some c → c.position < c.words.length →
    let last : Prop := c.position + 1 = c.words.length ∧ s.host.presented = []
    let answered (t : State) (x : HostAnswer) : Prop :=
      (∃ rest, t.host.answers = s.host.answers ++ x :: rest ∧ (last → rest = [] ∧ t.host.current = none)) ∧
      t.port = ⟨none, s.port.lastSide⟩ ∧
      (∀ e, s.host.presented = [] → t.host.current = some e → c.position < e.position) ∧
      t.engine.journal = s.engine.journal ∧ t.engine.state = s.engine.state ∧ t.engine.anchor = s.engine.anchor ∧
      t.settings = s.settings ∧ t.link = s.link ∧ t.control = s.control
    let done (t u : State) (x : HostAnswer) : Prop := answered t x ∧ t.regions = u.regions ∧ t.engine = u.engine ∧
      t.sources = u.sources ∧ (∀ f, hasFlag u.events.flags f = true → hasFlag t.events.flags f = true) ∧
      (last → t = { u with host := ⟨none, s.host.answers ++ [x], []⟩, port := ⟨none, s.port.lastSide⟩ })
    (s.lastRead .hostRead [] → c.kind = .read →
      ∃ t, exec (.memoryAnswer true d) s = .next t ∧ done t (s.counted .reads c) (.done (some d))) ∧
    (s.lastWrite .hostWrite → c.kind = .write →
      ∃ t, exec (.memoryAnswer true d) s = .next t ∧
        let u : State := s.counted .writes c
        done t (if c.grant.map (·.mode) = some .journal ∧ s.engine.state = .armed ∧ s.settings.timerMode = .quiet then
            { u with sources := { u.sources with timer := some s.settings.timerPeriod } }
          else u) (.done none)) ∧
    (s.working .hostRead ∨ s.working .hostWrite ∨ s.working .hostOldValue ∨ s.working .hostUndo →
      ∃ t, exec (.memoryAnswer false d) s = .next t ∧ answered t (faultTo c.kind .memoryFault) ∧
        hasFlag t.events.flags .memoryFault = true ∧ s.faultAnswered c .memoryFault t ∧ t.regions = s.regions ∧
        t.sources = s.sources)

/-- R59 steps 4 to 6, R14, R60, R22, R36: the old value read, the UNDO entry is written at tail; that written, tail, fill,
next and newest sequence advance, the word joins the touched set, the oldest leaving a full set, the region counts an UNDO
where its target is UNDO, whatever the compare action, the append that crosses the watermark sets and offers JOURNAL_HIGH,
and no other does, and the host's write is issued. That the word joins only while the engine is still ARMED and not LAPSED is
R96's, read so by the model (log entry 11): R59 says it without a condition. JOURNAL_HIGH offered by an append during FREEZE
shows ROLLING, which Table 8-3 does not name (log entry 29). -/
def Obligations.UndoAppendAdvancesTheJournal : Prop :=
  ∀ (c : HostAccess) (d : Word) (s : State), s.host.current = some c →
    let j : Journal := s.engine.journal
    let a : Nat := c.wordAddress
    (s.lastRead .hostOldValue [] →
      exec (.memoryAnswer true d) s = .next { s with port := ⟨some (s.slotWriting .hostUndo j.tail
        ⟨.undo, j.nextSequence, if j.fill = 0 then j.nextSequence - 1 else j.newestSequence, BitVec.ofNat 32 a, d, j.epoch,
          s.sources.stamp⟩), s.port.lastSide⟩ }) ∧
    (s.lastWrite .hostUndo →
      let advanced : State := { s with engine := { s.engine with journal := { j with
        tail := (j.tail + 1) % s.engine.slots
        fill := j.fill + 1
        nextSequence := j.nextSequence + 1
        newestSequence := j.nextSequence
        touched :=
          if s.engine.state = .armed ∧ j.lapsed = false ∧ a ∉ j.touched then
            (if j.touched.length < 64 then j.touched else j.touched.tail) ++ [a]
          else j.touched } } }
      exec (.memoryAnswer true d) s = .next { (advanced.counted .undo c).watched j.fill with
        port := ⟨some ⟨.hostWrite, .write a c.word.lanes c.word.data []⟩, s.port.lastSide⟩ })

/-- R16, R18, R22, R77, R78, R79: the MARK slot write answered OK, tail, fill, next and newest sequence and the epoch counter
advance, the mark joins the list, and the append that crosses the watermark sets and offers JOURNAL_HIGH, and no other does;
a LAPSED engine then writes the anchor OPEN with the first mark as head, and one with more marks than the limit the anchor
OPEN with the head that leaves the limit; else the mark is finished: the touched set emptied, the staged table installed,
MARK_TAKEN set and offered with its sources, the port given back. The OPEN anchor written at a LAPSED end clears LAPSED, and
the mark goes on at its limit. A failed slot write changes no journal field and sets MEMORY_FAULT and MARK_MISSED. -/
def Obligations.MarkIsTaken : Prop :=
  ∀ (x : SourceSet) (k : Nat) (stamp d : Word) (s : State),
    let finished (t : State) : State := offer { cause := .markTaken, sources := some x } { t.flagged (BitVec.twoPow 25 0) with
      engine := { t.engine with journal := { t.engine.journal with touched := [] } }
      regions := t.regions.install
      port := ⟨none, s.port.lastSide⟩ }
    let issues (t : State) (w : Work) (h : MarkElement) : State := { t with
      port := ⟨some (t.anchorWriting w (t.anchorNow .opened t.engine.action h.slot h.sequence 0 t.engine.journal.epoch)),
        s.port.lastSide⟩ }
    let limited (t u : State) : Prop :=
      (t.engine.journal.marks.length ≤ k → u = finished t) ∧
      (∀ h, k < t.engine.journal.marks.length →
        t.engine.journal.marks[t.engine.journal.marks.length - k]? = some h →
        u = issues t (.markLimit x (t.engine.journal.marks.length - k)) h)
    (s.lastWrite (.markAppend x k stamp) →
      let j : Journal := s.engine.journal
      let appended : State := { s with engine := { s.engine with journal := { j with
        tail := (j.tail + 1) % s.engine.slots
        fill := j.fill + 1
        nextSequence := j.nextSequence + 1
        newestSequence := j.nextSequence
        epoch := j.epoch + 1
        marks := j.marks ++ [⟨j.tail, j.nextSequence, j.epoch + 1, x, stamp⟩] } } }
      let t : State := appended.watched j.fill
      ∃ u, exec (.memoryAnswer true d) s = .next u ∧
        (∀ h, j.lapsed = true → t.engine.journal.marks[0]? = some h → u = issues t (.markLapseEnd x k) h) ∧
        (j.lapsed = false → limited t u)) ∧
    (s.lastWrite (.markLapseEnd x k) →
      let t : State := { s with engine := { s.engine with
        anchor := some s.engine.anchorTarget
        journal := { s.engine.journal with lapsed := false } } }
      ∃ u, exec (.memoryAnswer true d) s = .next u ∧ limited t u) ∧
    (s.working (.markAppend x k stamp) → exec (.memoryAnswer false d) s =
      .next { (s.flagged (BitVec.twoPow 25 21)).flagged (BitVec.twoPow 25 1) with port := ⟨none, s.port.lastSide⟩ })

/-- R17, R18, R19, R20, R21, R26, R27, R58, R77, R88, R97: a release anchor write answered OK moves head to the mark that
becomes first, takes the slots passed over from fill and the released marks from the list, sets EPOCH_RELEASED and tells the
host port. What made it then goes on: a RELEASE job sets RELEASE_DONE; a mark's room and an arming's write their MARK entry;
a mark's limit finishes the mark; a RELEASE-policy write meets the room check again, to the old value, to the next release,
to LOSE, or, when a ROLLBACK has been taken, held under ROLLING within its hold limit, and past it answered STALL_EXPIRED and
offered (R66, R69; words without lanes too, log entry 28). A FRESH anchor write answered OK makes
head tail, fill 0, the mark list and touched set empty; DISCARD then sets RELEASE_DONE, the DISARMED first write
JOURNAL_DROPPED, and LOSE sets both JOURNAL_FULL and JOURNAL_DROPPED and enters LAPSED, the latter two issuing the host's
write next. -/
def Obligations.ReleaseMovesTheHead : Prop :=
  ∀ (d : Word) (s : State),
    let j : Journal := s.engine.journal
    let emptied : Journal := { j with head := j.tail, fill := 0, marks := [], touched := [] }
    let marking (t : State) (w : Work) (x : SourceSet) : State := { t with port := ⟨some (t.slotWriting w
      t.engine.journal.tail ⟨.mark, t.engine.journal.nextSequence,
        if t.engine.journal.fill = 0 then t.engine.journal.nextSequence - 1 else t.engine.journal.newestSequence,
        t.engine.journal.epoch + 1, x.setWidth 32, t.engine.journal.epoch + 1, s.sources.stamp⟩), s.port.lastSide⟩ }
    (∀ n m, s.lastWrite (.release n) → j.marks[n]? = some m →
      exec (.memoryAnswer true d) s = .next { (s.released n m).flagged (BitVec.twoPow 25 15) with
        port := ⟨none, s.port.lastSide⟩ }) ∧
    (∀ x k m, s.lastWrite (.markRoom x k) → j.marks[1]? = some m →
      exec (.memoryAnswer true d) s = .next (marking (s.released 1 m) (.markAppend x k s.sources.stamp) x)) ∧
    (∀ a k m, s.lastWrite (.armRoom a k) → j.marks[1]? = some m →
      exec (.memoryAnswer true d) s = .next (marking (s.released 1 m) (.armAppend a k s.sources.stamp) 2)) ∧
    (∀ x n m, s.lastWrite (.markLimit x n) → j.marks[n]? = some m →
      let t : State := s.released n m
      exec (.memoryAnswer true d) s = .next (offer { cause := .markTaken, sources := some x }
        { t.flagged (BitVec.twoPow 25 0) with
          engine := { t.engine with journal := { t.engine.journal with touched := [] } }
          regions := s.regions.install
          port := ⟨none, s.port.lastSide⟩ })) ∧
    (∀ c m, s.host.current = some c → c.phase = .granted → s.lastWrite .hostRelease → j.marks[1]? = some m →
      let t : State := s.released 1 m
      let k : Journal := t.engine.journal
      let issues (y : Tenancy) : State := { t with port := ⟨some y, s.port.lastSide⟩ }
      ∃ u, exec (.memoryAnswer true d) s = .next u ∧
        (2 ≤ s.engine.slots - k.fill → u = issues (reading .hostOldValue c.wordAddress 1)) ∧
        (s.engine.slots - k.fill < 2 → s.engine.state = .rolling →
          s.settings.holdLimit = 0 ∨ c.hold.getD 0 < s.settings.holdLimit →
          u = { t with
            port := ⟨none, s.port.lastSide⟩
            host := { s.host with
              current := some { c with phase := .held, hold := some (c.hold.getD 0), grant := none } } }) ∧
        (s.engine.slots - k.fill < 2 → s.engine.state = .rolling → s.settings.holdLimit ≠ 0 →
          s.settings.holdLimit ≤ c.hold.getD 0 →
          (∃ rest, u.host.answers = s.host.answers ++ faultTo c.kind .stallExpired :: rest) ∧
          t.faultAnswered { c with grant := none } .stallExpired u ∧
          hasFlag u.events.flags .stallExpired = true ∧ u.engine.journal = k ∧ u.port = ⟨none, s.port.lastSide⟩) ∧
        (∀ h, s.engine.slots - k.fill < 2 → s.engine.state = .armed → k.marks[1]? = some h →
          u = issues (t.anchorWriting .hostRelease
            (t.anchorNow .opened s.engine.action h.slot h.sequence 0 k.epoch))) ∧
        (s.engine.slots - k.fill < 2 → s.engine.state = .armed → k.marks.length < 2 →
          u = issues (t.anchorWriting .hostLose (t.anchorNow .fresh .keep k.tail k.nextSequence 0 k.epoch)))) ∧
    (s.lastWrite .discard → s.engine.markPending = 0 →
      exec (.memoryAnswer true d) s = .next { s.flagged (BitVec.twoPow 25 15) with
        engine := { s.engine with anchor := some s.engine.anchorTarget, journal := emptied, exclusive := none }
        host := s.woken
        port := ⟨none, s.port.lastSide⟩ }) ∧
    (∀ c, s.host.current = some c → c.phase = .granted → s.lastWrite .hostFirstWrite →
      exec (.memoryAnswer true d) s = .next { s.flagged (BitVec.twoPow 25 4) with
        engine := { s.engine with anchor := some s.engine.anchorTarget, journal := emptied }
        port := ⟨some ⟨.hostWrite, .write c.wordAddress c.word.lanes c.word.data []⟩, s.port.lastSide⟩ }) ∧
    (∀ c, s.host.current = some c → c.phase = .granted → s.lastWrite .hostLose →
      exec (.memoryAnswer true d) s = .next { (s.flagged (BitVec.twoPow 25 18)).flagged (BitVec.twoPow 25 4) with
        engine := { s.engine with
          anchor := some s.engine.anchorTarget
          journal := { emptied with lapsed := true } }
        port := ⟨some ⟨.hostWrite, .write c.wordAddress c.word.lanes c.word.data []⟩, s.port.lastSide⟩ })

/-- R127, R17, R58, R61, R78, R88, R90: an anchor write answered ERROR, outside rollback and FORMAT, puts the engine into
BROKEN with the in-chip journal emptied and LAPSED clear, the timer stopped and everything else of the engine kept, sets
ANCHOR_FAULT and gives the port back. In a host tenancy the word is answered MEMORY_FAULT and the rest of its access SKIPPED,
which R69 offers (a word's without lanes too, log entry 28); in an engine tenancy the host port is told and no slot is
offered anything. A mark or an arming also sets MARK_MISSED. R91: an arming, a disarming and a DISCARD end their exclusive
operation, and a pending set that is not empty is emptied with MARK_MISSED. A host tenancy's failure leaves an exclusive
operation taken meanwhile standing: where that is FORMAT, the spec is silent, and this is the model's choice (log entry 31). -/
def Obligations.FailedAnchorWriteBreaksTheEngine : Prop :=
  ∀ (w : Work) (d : Word) (s : State), s.working w → w.writesAnchor = true →
    let broken : State := { s.flagged (BitVec.twoPow 25 23) with
      engine := { s.engine with state := .broken, journal := s.engine.journal.broken }
      sources := { s.sources with timer := none }
      port := ⟨none, s.port.lastSide⟩ }
    let ending : Prop := w = .discard ∨ ∃ fresh, w = .disarm fresh
    let told : State := { broken with host := s.woken }
    let missed : State := told.flagged (BitVec.twoPow 25 1)
    let ended (t : State) : State := { t with engine := { t.engine with exclusive := none, markPending := 0 } }
    ∃ t, exec (.memoryAnswer false d) s = .next t ∧
      (∀ x k, w = .markRoom x k ∨ w = .markLapseEnd x k ∨ w = .markLimit x k → t = missed) ∧
      (∀ a k, w = .armRoom a k ∨ w = .armAnchor a k → t = ended missed) ∧
      (ending → t = ended (if s.engine.markPending = 0 then told else missed)) ∧
      (∀ n, w = .release n → t = told) ∧
      (w.ofHost = true →
        t.engine = broken.engine ∧ t.sources = broken.sources ∧ t.port = broken.port ∧ t.regions = s.regions ∧
        t.settings = s.settings ∧ t.link = s.link ∧ t.control = s.control ∧ hasFlag t.events.flags .anchorFault = true ∧
        ∀ c, s.host.current = some c → (∃ rest, t.host.answers = s.host.answers ++ faultTo c.kind .memoryFault :: rest) ∧
          hasFlag t.events.flags .memoryFault = true ∧ broken.faultAnswered c .memoryFault t)

/-- R88, R90, R22: an arming's MARK entry written, which checks the watermark as every append does, the anchor is written
OPEN with the head that leaves the limit in the list; that written, the engine is ARMED with the action kept, LAPSED clear
and the touched set empty, the head is the recorded one, the staged table is installed, MARK_TAKEN set and offered with
source ARM, and the timer started in PERIODIC mode and stopped in QUIET. A disarming's anchor written, the engine is DISARMED
with LAPSED clear, the touched set empty, the timer stopped and the host port told. The exclusive operation ends. R91: a
pending set that is not empty then gives a MARK job in ARMED, and after a disarming is emptied with MARK_MISSED. An arming
whose MARK slot write fails sets MEMORY_FAULT and MARK_MISSED and ends with the engine and its journal as they were. -/
def Obligations.ArmingAndDisarmingComplete : Prop :=
  ∀ (d : Word) (s : State),
    let j : Journal := s.engine.journal
    (∀ a k stamp h, s.lastWrite (.armAppend a k stamp) →
      let marks := j.marks ++ [⟨j.tail, j.nextSequence, j.epoch + 1, 2, stamp⟩]
      marks[marks.length - k]? = some h →
      let appended : State := { s with engine := { s.engine with journal := { j with
        tail := (j.tail + 1) % s.engine.slots
        fill := j.fill + 1
        nextSequence := j.nextSequence + 1
        newestSequence := j.nextSequence
        epoch := j.epoch + 1
        marks := marks } } }
      exec (.memoryAnswer true d) s = .next { appended.watched j.fill with
        port := ⟨some (s.anchorWriting (.armAnchor a (marks.length - k))
          (s.anchorNow .opened a h.slot h.sequence 0 (j.epoch + 1))), s.port.lastSide⟩ }) ∧
    (∀ a n h, s.lastWrite (.armAnchor a n) → j.marks[n]? = some h →
      let armed : State := { (if n = 0 then s else s.flagged (BitVec.twoPow 25 2)).flagged (BitVec.twoPow 25 0) with
        engine := { s.engine with
          state := .armed
          action := a
          anchor := some s.engine.anchorTarget
          journal := { (if n = 0 then j else { j with
              head := h.slot
              fill := j.fill - slotsFrom s.engine.slots j.head h.slot
              marks := j.marks.drop n }) with
            lapsed := false
            touched := [] } }
        regions := s.regions.install
        host := if n = 0 then s.host else s.woken
        port := ⟨none, s.port.lastSide⟩ }
      exec (.memoryAnswer true d) s = .next { offer { cause := .markTaken, sources := some 2 } armed with
        engine := { armed.engine with
          exclusive := none
          jobs := if s.engine.markPending = 0 then s.engine.jobs else s.engine.jobs ++ [Job.mark] }
        sources := { s.sources with timer := match s.settings.timerMode with
          | .periodic => some s.settings.timerPeriod
          | .quiet => none
          | .off => s.sources.timer } }) ∧
    (∀ fresh, s.lastWrite (.disarm fresh) →
      exec (.memoryAnswer true d) s = .next {
        (if s.engine.markPending = 0 then s else s.flagged (BitVec.twoPow 25 1)) with
        engine := { s.engine with
          state := .disarmed
          anchor := some s.engine.anchorTarget
          exclusive := none
          markPending := 0
          journal := { (if fresh then { j with head := j.tail, fill := 0, marks := [] } else j) with
            lapsed := false
            touched := [] } }
        sources := { s.sources with timer := none }
        host := s.woken
        port := ⟨none, s.port.lastSide⟩ }) ∧
    (∀ a k stamp, s.working (.armAppend a k stamp) →
      exec (.memoryAnswer false d) s = .next { (s.flagged (BitVec.twoPow 25 21)).flagged (BitVec.twoPow 25 1) with
        engine := { s.engine with
          exclusive := none
          markPending := if s.engine.state = .armed then s.engine.markPending else 0
          jobs := if s.engine.state = .armed ∧ s.engine.markPending ≠ 0 then s.engine.jobs ++ [Job.mark]
            else s.engine.jobs }
        port := ⟨none, s.port.lastSide⟩ })

/-! ## Rollback -/

/-- R98, R99, R100, R104: the ROLLING anchor written, the phase is RESTORE, or SETTLE with no step remaining. A restore step
whose entry passes every check writes an UNDO's old data back with all four lanes, and passes over a MARK; the step complete,
expected sequence takes the entry's link, the position moves down one slot and steps remaining falls by one. An entry that
fails a check is damage: JOURNAL_DAMAGED is set. A memory error at the ANCHOR write, a slot read, a restore write, the VOID
or the settle anchor sets MEMORY_FAULT, and ANCHOR_FAULT too at the anchor writes. In each of these cases the anchor is
written BROKEN in the same tenancy, the engine ROLLING until that is answered (log entry 26). That anchor's restart action is
the model's reading of R104 (log entry 7). -/
def Obligations.RestoreStepsWalkDown : Prop :=
  ∀ (r : RollbackRecord) (d : Word) (s : State), s.engine.rollback = some r →
    let j : Journal := s.engine.journal
    let n : Nat := s.engine.slots
    let action : RestartAction := if r.origin = .armed then s.engine.action else .keep
    let phase (k : Nat) : RollbackPhase := if k = 0 then .settle else .restore
    let passed (link : Word) : State := { s with
      engine := { s.engine with
        steps := s.engine.steps - 1
        rollback := some { r with
          expected := link
          position := (r.position + n - 1) % n
          phase := phase (s.engine.steps - 1) } }
      port := ⟨none, s.port.lastSide⟩ }
    let fails (x : FlagSet) (t : State) : Prop := ∀ m rest, j.marks = m :: rest → t = { s.flagged x with
      port := ⟨some (s.anchorWriting .brokenAnchor
        (s.anchorNow .broken action m.slot m.sequence r.targetSequence j.epoch)), s.port.lastSide⟩ }
    let elementAt (m : MarkElement) : Prop := ∃ before after, j.marks = before ++ m :: after ∧ m.slot = r.position ∧
      ∀ x ∈ before, x.slot ≠ r.position
    let nearest (m : MarkElement) : Prop := ∃ before after, j.marks = before ++ m :: after ∧
      slotsFrom n j.head m.slot ≤ slotsFrom n j.head r.position ∧
      ∀ x ∈ after, slotsFrom n j.head r.position < slotsFrom n j.head x.slot
    let checks (e : Entry) : Prop := e.sequence = r.expected ∧
      (e.kind = .undo ∧ (∀ m ∈ j.marks, m.slot ≠ r.position) ∧ e.third.toNat % 4 = 0 ∧ e.third.toNat < s.dataSpaceEnd ∨
        e.kind = .mark ∧ (∃ m, elementAt m ∧ e.sequence = m.sequence ∧ e.epoch = m.epoch) ∧ e.third = e.epoch) ∧
      (∃ m, nearest m ∧ e.epoch = m.epoch) ∧ (s.engine.steps = 1 → e.link = r.targetSequence)
    (s.lastWrite .rollbackAnchor → exec (.memoryAnswer true d) s = .next { s with
      engine := { s.engine with
        anchor := some s.engine.anchorTarget
        rollback := some { r with phase := phase s.engine.steps } }
      port := ⟨none, s.port.lastSide⟩ }) ∧
    (∀ got, s.lastRead .restoreRead got → ∃ t, exec (.memoryAnswer true d) s = .next t ∧
      (∀ e, parseEntry (got ++ [d]) = some e → checks e →
        (e.kind = .undo → t = { s with
          port := ⟨some ⟨.restoreWrite e.link, .write e.third.toNat 0xF e.fourth []⟩, s.port.lastSide⟩ }) ∧
        (e.kind = .mark → t = passed e.link)) ∧
      ((∀ e, parseEntry (got ++ [d]) = some e → ¬ checks e) → fails (BitVec.twoPow 25 22) t)) ∧
    (∀ link, s.lastWrite (.restoreWrite link) → exec (.memoryAnswer true d) s = .next (passed link)) ∧
    (∀ w, s.working w → w = .restoreRead ∨ (∃ link, w = .restoreWrite link) ∨ w = .settleVoid →
      ∃ t, exec (.memoryAnswer false d) s = .next t ∧ fails (BitVec.twoPow 25 21) t) ∧
    (s.working .rollbackAnchor ∨ s.working .settleAnchor →
      ∃ t, exec (.memoryAnswer false d) s = .next t ∧ fails (BitVec.twoPow 25 21 ||| BitVec.twoPow 25 23) t)

/-- R101, R102: the VOID written, the anchor is written in the same tenancy, OPEN from an ARMED origin and else IDLE; that
written, the in-chip journal is cut back to the target, the next sequence kept, the engine returns to ARMED, or else to
DISARMED, a QUIET timer stops, the record and the exclusive operation end, the host port is told, ROLLBACK_DONE is set and
ROLLBACK_END offered. R104: the BROKEN anchor written or failed, the engine is BROKEN with the in-chip journal emptied and
steps remaining kept, the timer stopped, the record ended, the host port told and ROLLBACK_END offered; a failed write sets
ANCHOR_FAULT. R110: a rollback of recovery ends recovery besides, with the held word checked again (R53, R140). That head
stands at tail in the emptied journal is the model's reading of R104 (log entry 18), and the BROKEN anchor's restart action,
not named here, another (log entry 7). That recovery's end sets RECOVERY_DONE also with HALTED set or a restart pending is
the model's choice (log entry 23), and so is its offer for a held write's words without lanes (log entry 28). -/
def Obligations.RollbackSettlesOrBreaks : Prop :=
  ∀ (r : RollbackRecord) (d : Word) (s : State), s.engine.rollback = some r → s.engine.markPending = 0 →
    let j : Journal := s.engine.journal
    let n : Nat := s.engine.slots
    let action : RestartAction := if r.origin = .armed then s.engine.action else .keep
    let ends (t u : State) : Prop :=
      (r.origin ≠ .recovery → u = offer { cause := .rollbackEnd } { t with
        engine := { t.engine with exclusive := none }
        host := s.woken }) ∧
      (r.origin = .recovery → (offer { cause := .rollbackEnd } { t with
        engine := { t.engine with recovery := none } }).recovered u)
    (∀ m rest, s.lastWrite .settleVoid → j.marks = m :: rest → exec (.memoryAnswer true d) s = .next { s with
      port := ⟨some (s.anchorWriting .settleAnchor
        (s.anchorNow (if r.origin = .armed then .opened else .idle) action m.slot m.sequence 0 r.targetEpoch)),
        s.port.lastSide⟩ }) ∧
    (∀ before m after, s.lastWrite .settleAnchor → j.marks = before ++ m :: after → m.slot = r.targetSlot →
      (∀ x ∈ before, x.slot ≠ r.targetSlot) →
      ∃ u, exec (.memoryAnswer true d) s = .next u ∧ ends { s.flagged (BitVec.twoPow 25 5) with
        engine := { s.engine with
          state := if r.origin = .armed then .armed else .disarmed
          anchor := some s.engine.anchorTarget
          rollback := none
          steps := 0
          journal := { j with
            tail := (r.targetSlot + 1) % n
            fill := slotsFrom n j.head r.targetSlot + 1
            newestSequence := r.targetSequence
            epoch := r.targetEpoch
            marks := before ++ [m]
            touched := [] } }
        sources := { s.sources with timer := if s.settings.timerMode = .quiet then none else s.sources.timer }
        port := ⟨none, s.port.lastSide⟩ } u) ∧
    (∀ ok, (if ok then s.lastWrite .brokenAnchor else s.working .brokenAnchor) →
      ∃ u, exec (.memoryAnswer ok d) s = .next u ∧ ends { (if ok then s else s.flagged (BitVec.twoPow 25 23)) with
        engine := { s.engine with
          state := .broken
          anchor := if ok then some s.engine.anchorTarget else s.engine.anchor
          rollback := none
          journal := j.broken }
        sources := { s.sources with timer := none }
        port := ⟨none, s.port.lastSide⟩ } u)

/-! ## FORMAT, recovery and PEEK -/

/-- R130, R131, R132, R133: FORMAT clears the second copy after the first, then has no anchor record and goes on to slot 0;
each cleared slot takes one from the STATUS field and leads to the next, the last to the final tenancy; the final anchor
written, the engine is DISARMED, FORMAT_DONE is set and the field is 0. A failed access leaves it UNFORMATTED with no
geometry and no anchor record, MEMORY_FAULT set, and the field kept; a failed final anchor write sets ANCHOR_FAULT as well.
R122: a PEEK's slot read makes the buffer READY, VALID where check and kind match, READ_ERROR with zero words on an ERROR,
and sets PEEK_DONE. That FORMAT ends so from BROKEN as from FORMATTING is the model's choice (log entry 31). -/
def Obligations.FormatAndPeekComplete : Prop :=
  ∀ (d : Word) (s : State),
    let back : MemoryPort := ⟨none, s.port.lastSide⟩
    (∀ c, s.lastWrite (.clearFirst c) → exec (.memoryAnswer true d) s = .next { s with
      port := ⟨some (writing .clearSecond (s.copyAddress c) (List.replicate 8 0)), s.port.lastSide⟩ }) ∧
    (s.lastWrite .clearSecond → exec (.memoryAnswer true d) s = .next { s with
      engine := { s.engine with anchor := none, exclusive := some (.format (.slot 0)) }
      port := back }) ∧
    (∀ k, s.lastWrite (.clearSlot k) → exec (.memoryAnswer true d) s = .next { s with
      engine := { s.engine with
        steps := s.engine.steps - 1
        exclusive := some (.format (if k + 1 < s.engine.slots then .slot (k + 1) else .final)) }
      port := back }) ∧
    (s.lastWrite .formatAnchor → s.engine.markPending = 0 →
      exec (.memoryAnswer true d) s = .next { s.flagged (BitVec.twoPow 25 6) with
        engine := { s.engine with
          state := .disarmed
          anchor := some s.engine.anchorTarget
          steps := 0
          exclusive := none }
        port := back }) ∧
    (∀ w, s.working w → s.engine.markPending = 0 →
      (∃ c, w = .clearFirst c) ∨ w = .clearSecond ∨ (∃ k, w = .clearSlot k) ∨ w = .formatAnchor →
      exec (.memoryAnswer false d) s = .next {
        (if w = .formatAnchor then s.flagged (BitVec.twoPow 25 23) else s).flagged (BitVec.twoPow 25 21) with
        engine := { s.engine with
          state := .unformatted
          geometry := none
          anchor := none
          journal := s.engine.journal.broken
          exclusive := none }
        port := back }) ∧
    (∀ k kept got, s.lastRead (.peek k kept) got → exec (.memoryAnswer true d) s = .next { s.flagged (BitVec.twoPow 25 8) with
      engine := { s.engine with
        peek := .ready ⟨k, if (parseEntry (got ++ [d])).isSome then .valid else .invalid, kept, got ++ [d]⟩ }
      port := back }) ∧
    (∀ k kept, s.working (.peek k kept) →
      exec (.memoryAnswer false d) s = .next { (s.flagged (BitVec.twoPow 25 21)).flagged (BitVec.twoPow 25 8) with
        engine := { s.engine with peek := .ready ⟨k, .readError, kept, List.replicate 8 0⟩ }
        port := back })

/-- R125, R126, R135, R136, R140: copy B follows copy A, an ERROR making a copy unreadable with MEMORY_FAULT set. Of two
valid copies the serially later is the current anchor, A when neither is; of one valid beside an invalid one, that one. The
geometry and the anchor record take it: FRESH gives DISARMED with an empty journal, OPEN, IDLE and ROLLING lead to the scan,
BROKEN gives BROKEN. A valid copy beside an unreadable one gives BROKEN, and no valid copy UNFORMATTED. Where recovery ends,
RECOVERY_DONE is set and a held word checked again; that the flag is set also with HALTED set or a restart pending is the
model's choice (log entry 23), and so is the offer for a held write's words without lanes (log entry 28). That head stands at
tail in BROKEN is the model's reading (log entry 18). -/
def Obligations.RecoveryChoosesTheAnchor : Prop :=
  ∀ (a : CopyReading) (got : List Word) (d : Word) (s : State),
    let back : MemoryPort := ⟨none, s.port.lastSide⟩
    let read : CopyReading := readingOf s (got ++ [d])
    let failed : State := s.flagged (BitVec.twoPow 25 21)
    let adopted (s : State) (p : Copy) (f : AnchorCopy) (x : EngineState) (j : Journal) (q : Option RecoveryStep) : State :=
      { s with
        engine := { s.engine with
          state := x
          geometry := some f.sizeCode
          anchor := some (p, f.generation)
          journal := j
          recovery := q }
        port := back }
    let unformatted (s : State) : State := { s with
      engine := { s.engine with state := .unformatted, geometry := none, anchor := none, recovery := none }
      port := back }
    let current (b : CopyReading) (p : Copy) (f : AnchorCopy) : Prop :=
      p = .a ∧ a = .valid f ∧ (b = .invalid ∨ ∃ g, b = .valid g ∧ later g.generation f.generation = false) ∨
      p = .b ∧ b = .valid f ∧ (a = .invalid ∨ ∃ g, a = .valid g ∧ later f.generation g.generation = true)
    (s.lastRead .readCopyA got → exec (.memoryAnswer true d) s = .next { s with
      engine := { s.engine with recovery := some (.copyB read) }
      port := back }) ∧
    (s.working .readCopyA → exec (.memoryAnswer false d) s = .next { failed with
      engine := { s.engine with recovery := some (.copyB .unreadable) }
      port := back }) ∧
    (∀ p f, s.lastRead (.readCopyB a) got → current read p f → ∃ t, exec (.memoryAnswer true d) s = .next t ∧
      (f.state = .opened ∨ f.state = .idle ∨ f.state = .rolling →
        t = adopted s p f s.engine.state s.engine.journal (some (.scan f f.headSlot))) ∧
      (f.state = .fresh → (adopted s p f .disarmed
        ⟨f.headSlot, f.headSlot, 0, f.headSequence, f.headSequence - 1, f.epoch, [], [], false⟩ none).recovered t) ∧
      (f.state = .broken → (adopted s p f .broken s.engine.journal.broken none).recovered t)) ∧
    (∀ f, s.lastRead (.readCopyB a) got → a = .unreadable → read = .valid f →
      ∃ t, exec (.memoryAnswer true d) s = .next t ∧ (adopted s .b f .broken s.engine.journal.broken none).recovered t) ∧
    (s.lastRead (.readCopyB a) got → read = .invalid → (∀ f, a ≠ .valid f) →
      ∃ t, exec (.memoryAnswer true d) s = .next t ∧ (unformatted s).recovered t) ∧
    (s.working (.readCopyB a) → ∃ t, exec (.memoryAnswer false d) s = .next t ∧
      (∀ f, a = .valid f → (adopted failed .a f .broken s.engine.journal.broken none).recovered t) ∧
      ((∀ f, a ≠ .valid f) → (unformatted failed).recovered t))

/-- R137, R138, R139: the head slot is accepted when it holds a MARK of the anchor's head sequence whose third word is its
epoch, else the engine is BROKEN; a following slot when it holds an UNDO of the newest mark's epoch or a MARK of the next,
linked to the last accepted entry and serially later. An accepted entry extends the in-chip journal (log entry 8), its mark's
sources the low five bits of their word (log entry 17), and the scan goes on until S entries are accepted. A stopping slot
ends it: the next sequence is that of a VOID linked to the last entry and serially later, else the last sequence + 1; so does
the S-th entry. IDLE, and OPEN with KEEP, then give DISARMED; OPEN with REVERT a rollback to the newest mark; ROLLING a
rollback to the mark of its target sequence, from RESTORE, or SETTLE with no step, and BROKEN when no mark has it (R110). The
rollback's range is given when the record is made, for REVERT too (log entry 16). A memory error gives BROKEN with
MEMORY_FAULT. Where recovery ends, RECOVERY_DONE is set, also with HALTED set or a restart pending (log entry 23), and a held
word checked again (R140), its words without lanes offered as others are (log entry 28); head stands at tail in BROKEN (log
entry 18). -/
def Obligations.ScanRebuildsTheJournal : Prop :=
  ∀ (f : AnchorCopy) (slot : Nat) (got : List Word) (d : Word) (s : State),
    let back : MemoryPort := ⟨none, s.port.lastSide⟩
    let j : Journal := s.engine.journal
    let n : Nat := s.engine.slots
    let read : Option Entry := parseEntry (got ++ [d])
    let headFits (e : Entry) : Prop := e.kind = .mark ∧ e.sequence = f.headSequence ∧ e.third = e.epoch
    let follows (e : Entry) : Prop := e.link = j.newestSequence ∧ later e.sequence j.newestSequence = true ∧
      (e.kind = .undo ∧ e.epoch = j.epoch ∨
        e.kind = .mark ∧ e.epoch = j.epoch + 1 ∧ e.third = j.epoch + 1 ∧ j.marks.length < 16)
    let accepted (e : Entry) : Journal := { j with
      head := if j.fill = 0 then slot else j.head
      tail := (slot + 1) % n
      fill := j.fill + 1
      newestSequence := e.sequence
      epoch := e.epoch
      marks := if e.kind = .mark then j.marks ++ [⟨slot, e.sequence, e.epoch, e.fourth.setWidth 5, e.stamp⟩] else j.marks }
    let left (s : State) (x : EngineState) (j : Journal) : State := { s with
      engine := { s.engine with state := x, recovery := none, journal := j }
      port := back }
    let rolls (m : MarkElement) (p : RollbackPhase) (j : Journal) : State := { s with
      engine := { s.engine with
        state := .rolling
        recovery := none
        rollback := some ⟨.recovery, m.slot, m.sequence, m.epoch, p, (j.tail + n - 1) % n, j.newestSequence⟩
        steps := slotsFrom n ((m.slot + 1) % n) j.tail
        journal := j }
      port := back }
    let ended (scanned : Journal) (next : Word) (t : State) : Prop :=
      let k : Journal := { scanned with nextSequence := next, touched := [], lapsed := false }
      (f.state = .idle ∨ f.state = .opened ∧ f.action = .keep → (left s .disarmed k).recovered t) ∧
      (∀ m, f.state = .opened → f.action = .revert → k.marks.getLast? = some m → t = rolls m .anchor k) ∧
      (f.state = .rolling →
        (∀ before m after, k.marks = before ++ m :: after → m.sequence = f.targetSequence →
          (∀ x ∈ before, x.sequence ≠ f.targetSequence) →
          t = rolls m (if slotsFrom n ((m.slot + 1) % n) k.tail = 0 then .settle else .restore) k) ∧
        ((∀ m ∈ k.marks, m.sequence ≠ f.targetSequence) → (left s .broken k.broken).recovered t))
    (s.lastRead (.scan f slot) got → ∃ t, exec (.memoryAnswer true d) s = .next t ∧
      (∀ e, read = some e → j.fill = 0 ∧ headFits e ∨ j.fill ≠ 0 ∧ follows e →
        (j.fill + 1 < n → t = { s with
          engine := { s.engine with recovery := some (.scan f ((slot + 1) % n)), journal := accepted e }
          port := back }) ∧
        (n ≤ j.fill + 1 → ended (accepted e) (e.sequence + 1) t)) ∧
      (j.fill = 0 → (∀ e, read = some e → ¬ headFits e) → (left s .broken j.broken).recovered t) ∧
      (∀ e, j.fill ≠ 0 → read = some e → e.kind = .void → e.link = j.newestSequence →
        later e.sequence j.newestSequence = true → ended j e.sequence t) ∧
      (j.fill ≠ 0 → (∀ e, read = some e → ¬ follows e ∧ (e.kind = .void → e.link ≠ j.newestSequence ∨
        later e.sequence j.newestSequence = false)) → ended j (j.newestSequence + 1) t)) ∧
    (s.working (.scan f slot) → ∃ t, exec (.memoryAnswer false d) s = .next t ∧
      (left (s.flagged (BitVec.twoPow 25 21)) .broken j.broken).recovered t)

/-! ## Conditions of the whole machine -/

/-- R60: the touched set holds at most 64 distinct addresses and is empty unless the engine is ARMED and not LAPSED; every
step keeps this, whatever the command and whatever memory answers. -/
def Obligations.EveryStepKeepsTheTouchedSet : Prop :=
  ∀ s t : State, TouchedSetOk s → step s = .next t → TouchedSetOk t

/-- R48, R111, R185: a host tenancy is in progress exactly while the current word is GRANTED, no word is left in ENTRY, the
current word is one of its access's, and no request stays presented at an IDLE port; every step keeps this. -/
def Obligations.EveryStepKeepsTheHostWord : Prop :=
  ∀ s t : State, HostWordOk s → step s = .next t → HostWordOk t

/-- Tables 10-5 and 8-1, R148, R149: every step keeps each configuration item in its range and each capture slot's mode,
phase, count and record in agreement. -/
def Obligations.EveryStepKeepsSettingsAndCaptures : Prop :=
  ∀ s t : State, step s = .next t → (SettingsOk s → SettingsOk t) ∧ (CapturesOk s → CapturesOk t)

/-- The conditions every step keeps hold right after reset. The levels sampled then are the model's choice (log entry 1);
none of these conditions reads them. -/
def Obligations.ResetMeetsTheConditions : Prop :=
  TouchedSetOk State.reset ∧ HostWordOk State.reset ∧ SettingsOk State.reset ∧ CapturesOk State.reset

/-- R160: a flag stays set through every command, happening and step but an acknowledgement that names it and a cold reset.
R163: after every command, happening and step ATTN is driven low exactly while a flag is set whose enable is set. It is
driven low by a SET of the event enables, or by the setting of an enabled flag, and released by an acknowledgement, such a
SET or a cold reset, and by nothing else. That time passes at a step on an empty queue is the model's choice (log entry 2).
-/
def Obligations.FlagsStaySetUntilAcknowledged : Prop :=
  (∀ (f : Flag) (c : Instr) (s t : State), hasFlag s.events.flags f = true → exec c s = .next t →
    c ≠ .coldReset → (∀ v, c = .ackEvents v → v.getLsbD f.bit = false) → hasFlag t.events.flags f = true) ∧
  (∀ (f : Flag) (s t : State), hasFlag s.events.flags f = true → step s = .next t →
    s.pending.head? ≠ some .coldReset → (∀ v, s.pending.head? = some (.ackEvents v) → v.getLsbD f.bit = false) →
    hasFlag t.events.flags f = true) ∧
  ∀ (c : Option Instr) (s t : State),
    (∃ i, c = some i ∧ exec i s = .next t) ∨ c = s.pending.head? ∧ step s = .next t →
    (t.attnLow = true ↔ ∃ n : Fin 25, t.events.flags.getLsbD n.val = true ∧ t.events.enables.getLsbD n.val = true) ∧
    (s.attnLow = true → t.attnLow = false →
      c = some .coldReset ∨ (∃ v, c = some (.ackEvents v)) ∨ ∃ v, c = some (.set 10 v)) ∧
    (s.attnLow = false → t.attnLow = true → (∃ v, c = some (.set 10 v)) ∨
      ∃ f : Flag, hasFlag s.events.flags f = false ∧ hasFlag t.events.flags f = true ∧ t.events.enables.getLsbD f.bit = true)

/-- Tables 10-1, 11-1, 11-2, 11-3 and 11-9, R7, R125, R182, R183: every command is read back from the frame it is sent in,
and such a frame is well formed; every frame, of up to 255 argument bytes, is read: as the command whose own frame it is, or
else it is malformed and read as FRAME_UNKNOWN. Every journal entry is read back from its eight words, and eight words taken
for an entry are that entry's, check word included. Every anchor copy whose fields are in range is read back from its eight
words, and eight words taken for an anchor copy carry its fields in range at their places, this memory's size code and a
check word over the other seven; that the unused word is not looked at is the model's reading (log entry 17). -/
def Obligations.FramesAndRecordsReadBack : Prop :=
  (∀ (c : Instr) (code : Byte) (args : List Byte), commandFrame c = some (code, args) →
    decodeFrame code args = some c ∧ malformed code (BitVec.ofNat 8 args.length) = false) ∧
  (∀ (code : Byte) (args : List Byte), args.length ≤ 255 → ∃ c, decodeFrame code args = some c) ∧
  (∀ (code : Byte) (args : List Byte) (c : Instr), decodeFrame code args = some c →
    commandFrame c = some (code, args) ∨
      malformed code (BitVec.ofNat 8 args.length) = true ∧ c = .frameUnknown code (BitVec.ofNat 8 args.length)) ∧
  (∀ e : Entry, parseEntry e.words = some e) ∧
  (∀ (e : Entry) (ws : List Word), parseEntry ws = some e → ws = e.words) ∧
  (∀ c : AnchorCopy, sizeAllowed c.memoryCode c.sizeCode = true → c.headSlot < slotCount c.sizeCode →
    parseAnchor c.memoryCode c.words = some c) ∧
  (∀ (memory : Fin 5) (c : AnchorCopy) (ws : List Word), parseAnchor memory ws = some c →
    c.memoryCode = memory ∧ sizeAllowed memory c.sizeCode = true ∧ c.headSlot < slotCount c.sizeCode ∧
    ∃ unused, ws = withCheck [c.generation, c.word1, BitVec.ofNat 32 c.headSlot, c.headSequence, c.targetSequence, c.epoch,
      unused])
end

