-- ==== Sys2Proof/Laws/State.lean ====
section
/-!
SUPPORT. One lemma for each field under each update of State: an update replaces its own block and no other.
-/
namespace Sys2Proof.Machine

@[simp] theorem State.withEngine_engine (s : State) (x : Engine) : (s.withEngine x).engine = x := rfl
@[simp] theorem State.withEngine_settings (s : State) (x : Engine) : (s.withEngine x).settings = s.settings := rfl
@[simp] theorem State.withEngine_host (s : State) (x : Engine) : (s.withEngine x).host = s.host := rfl
@[simp] theorem State.withEngine_port (s : State) (x : Engine) : (s.withEngine x).port = s.port := rfl
@[simp] theorem State.withEngine_regions (s : State) (x : Engine) : (s.withEngine x).regions = s.regions := rfl
@[simp] theorem State.withEngine_sources (s : State) (x : Engine) : (s.withEngine x).sources = s.sources := rfl
@[simp] theorem State.withEngine_captures (s : State) (x : Engine) : (s.withEngine x).captures = s.captures := rfl
@[simp] theorem State.withEngine_events (s : State) (x : Engine) : (s.withEngine x).events = s.events := rfl
@[simp] theorem State.withEngine_link (s : State) (x : Engine) : (s.withEngine x).link = s.link := rfl
@[simp] theorem State.withEngine_control (s : State) (x : Engine) : (s.withEngine x).control = s.control := rfl
@[simp] theorem State.withEngine_pending (s : State) (x : Engine) : (s.withEngine x).pending = s.pending := rfl

@[simp] theorem State.withJournal_engine (s : State) (x : Journal) : (s.withJournal x).engine = { s.engine with journal := x } := rfl
@[simp] theorem State.withJournal_settings (s : State) (x : Journal) : (s.withJournal x).settings = s.settings := rfl
@[simp] theorem State.withJournal_host (s : State) (x : Journal) : (s.withJournal x).host = s.host := rfl
@[simp] theorem State.withJournal_port (s : State) (x : Journal) : (s.withJournal x).port = s.port := rfl
@[simp] theorem State.withJournal_regions (s : State) (x : Journal) : (s.withJournal x).regions = s.regions := rfl
@[simp] theorem State.withJournal_sources (s : State) (x : Journal) : (s.withJournal x).sources = s.sources := rfl
@[simp] theorem State.withJournal_captures (s : State) (x : Journal) : (s.withJournal x).captures = s.captures := rfl
@[simp] theorem State.withJournal_events (s : State) (x : Journal) : (s.withJournal x).events = s.events := rfl
@[simp] theorem State.withJournal_link (s : State) (x : Journal) : (s.withJournal x).link = s.link := rfl
@[simp] theorem State.withJournal_control (s : State) (x : Journal) : (s.withJournal x).control = s.control := rfl
@[simp] theorem State.withJournal_pending (s : State) (x : Journal) : (s.withJournal x).pending = s.pending := rfl

@[simp] theorem State.withEngineState_engine (s : State) (x : EngineState) : (s.withEngineState x).engine = { s.engine with state := x } := rfl
@[simp] theorem State.withEngineState_settings (s : State) (x : EngineState) : (s.withEngineState x).settings = s.settings := rfl
@[simp] theorem State.withEngineState_host (s : State) (x : EngineState) : (s.withEngineState x).host = s.host := rfl
@[simp] theorem State.withEngineState_port (s : State) (x : EngineState) : (s.withEngineState x).port = s.port := rfl
@[simp] theorem State.withEngineState_regions (s : State) (x : EngineState) : (s.withEngineState x).regions = s.regions := rfl
@[simp] theorem State.withEngineState_sources (s : State) (x : EngineState) : (s.withEngineState x).sources = s.sources := rfl
@[simp] theorem State.withEngineState_captures (s : State) (x : EngineState) : (s.withEngineState x).captures = s.captures := rfl
@[simp] theorem State.withEngineState_events (s : State) (x : EngineState) : (s.withEngineState x).events = s.events := rfl
@[simp] theorem State.withEngineState_link (s : State) (x : EngineState) : (s.withEngineState x).link = s.link := rfl
@[simp] theorem State.withEngineState_control (s : State) (x : EngineState) : (s.withEngineState x).control = s.control := rfl
@[simp] theorem State.withEngineState_pending (s : State) (x : EngineState) : (s.withEngineState x).pending = s.pending := rfl

@[simp] theorem State.withExclusive_engine (s : State) (x : Option Exclusive) : (s.withExclusive x).engine = { s.engine with exclusive := x } := rfl
@[simp] theorem State.withExclusive_settings (s : State) (x : Option Exclusive) : (s.withExclusive x).settings = s.settings := rfl
@[simp] theorem State.withExclusive_host (s : State) (x : Option Exclusive) : (s.withExclusive x).host = s.host := rfl
@[simp] theorem State.withExclusive_port (s : State) (x : Option Exclusive) : (s.withExclusive x).port = s.port := rfl
@[simp] theorem State.withExclusive_regions (s : State) (x : Option Exclusive) : (s.withExclusive x).regions = s.regions := rfl
@[simp] theorem State.withExclusive_sources (s : State) (x : Option Exclusive) : (s.withExclusive x).sources = s.sources := rfl
@[simp] theorem State.withExclusive_captures (s : State) (x : Option Exclusive) : (s.withExclusive x).captures = s.captures := rfl
@[simp] theorem State.withExclusive_events (s : State) (x : Option Exclusive) : (s.withExclusive x).events = s.events := rfl
@[simp] theorem State.withExclusive_link (s : State) (x : Option Exclusive) : (s.withExclusive x).link = s.link := rfl
@[simp] theorem State.withExclusive_control (s : State) (x : Option Exclusive) : (s.withExclusive x).control = s.control := rfl
@[simp] theorem State.withExclusive_pending (s : State) (x : Option Exclusive) : (s.withExclusive x).pending = s.pending := rfl

@[simp] theorem State.withRollback_engine (s : State) (x : Option RollbackRecord) : (s.withRollback x).engine = { s.engine with rollback := x } := rfl
@[simp] theorem State.withRollback_settings (s : State) (x : Option RollbackRecord) : (s.withRollback x).settings = s.settings := rfl
@[simp] theorem State.withRollback_host (s : State) (x : Option RollbackRecord) : (s.withRollback x).host = s.host := rfl
@[simp] theorem State.withRollback_port (s : State) (x : Option RollbackRecord) : (s.withRollback x).port = s.port := rfl
@[simp] theorem State.withRollback_regions (s : State) (x : Option RollbackRecord) : (s.withRollback x).regions = s.regions := rfl
@[simp] theorem State.withRollback_sources (s : State) (x : Option RollbackRecord) : (s.withRollback x).sources = s.sources := rfl
@[simp] theorem State.withRollback_captures (s : State) (x : Option RollbackRecord) : (s.withRollback x).captures = s.captures := rfl
@[simp] theorem State.withRollback_events (s : State) (x : Option RollbackRecord) : (s.withRollback x).events = s.events := rfl
@[simp] theorem State.withRollback_link (s : State) (x : Option RollbackRecord) : (s.withRollback x).link = s.link := rfl
@[simp] theorem State.withRollback_control (s : State) (x : Option RollbackRecord) : (s.withRollback x).control = s.control := rfl
@[simp] theorem State.withRollback_pending (s : State) (x : Option RollbackRecord) : (s.withRollback x).pending = s.pending := rfl

@[simp] theorem State.withRecovery_engine (s : State) (x : Option RecoveryStep) : (s.withRecovery x).engine = { s.engine with recovery := x } := rfl
@[simp] theorem State.withRecovery_settings (s : State) (x : Option RecoveryStep) : (s.withRecovery x).settings = s.settings := rfl
@[simp] theorem State.withRecovery_host (s : State) (x : Option RecoveryStep) : (s.withRecovery x).host = s.host := rfl
@[simp] theorem State.withRecovery_port (s : State) (x : Option RecoveryStep) : (s.withRecovery x).port = s.port := rfl
@[simp] theorem State.withRecovery_regions (s : State) (x : Option RecoveryStep) : (s.withRecovery x).regions = s.regions := rfl
@[simp] theorem State.withRecovery_sources (s : State) (x : Option RecoveryStep) : (s.withRecovery x).sources = s.sources := rfl
@[simp] theorem State.withRecovery_captures (s : State) (x : Option RecoveryStep) : (s.withRecovery x).captures = s.captures := rfl
@[simp] theorem State.withRecovery_events (s : State) (x : Option RecoveryStep) : (s.withRecovery x).events = s.events := rfl
@[simp] theorem State.withRecovery_link (s : State) (x : Option RecoveryStep) : (s.withRecovery x).link = s.link := rfl
@[simp] theorem State.withRecovery_control (s : State) (x : Option RecoveryStep) : (s.withRecovery x).control = s.control := rfl
@[simp] theorem State.withRecovery_pending (s : State) (x : Option RecoveryStep) : (s.withRecovery x).pending = s.pending := rfl

@[simp] theorem State.withSteps_engine (s : State) (x : Nat) : (s.withSteps x).engine = { s.engine with steps := x } := rfl
@[simp] theorem State.withSteps_settings (s : State) (x : Nat) : (s.withSteps x).settings = s.settings := rfl
@[simp] theorem State.withSteps_host (s : State) (x : Nat) : (s.withSteps x).host = s.host := rfl
@[simp] theorem State.withSteps_port (s : State) (x : Nat) : (s.withSteps x).port = s.port := rfl
@[simp] theorem State.withSteps_regions (s : State) (x : Nat) : (s.withSteps x).regions = s.regions := rfl
@[simp] theorem State.withSteps_sources (s : State) (x : Nat) : (s.withSteps x).sources = s.sources := rfl
@[simp] theorem State.withSteps_captures (s : State) (x : Nat) : (s.withSteps x).captures = s.captures := rfl
@[simp] theorem State.withSteps_events (s : State) (x : Nat) : (s.withSteps x).events = s.events := rfl
@[simp] theorem State.withSteps_link (s : State) (x : Nat) : (s.withSteps x).link = s.link := rfl
@[simp] theorem State.withSteps_control (s : State) (x : Nat) : (s.withSteps x).control = s.control := rfl
@[simp] theorem State.withSteps_pending (s : State) (x : Nat) : (s.withSteps x).pending = s.pending := rfl

@[simp] theorem State.withJobs_engine (s : State) (x : List Job) : (s.withJobs x).engine = { s.engine with jobs := x } := rfl
@[simp] theorem State.withJobs_settings (s : State) (x : List Job) : (s.withJobs x).settings = s.settings := rfl
@[simp] theorem State.withJobs_host (s : State) (x : List Job) : (s.withJobs x).host = s.host := rfl
@[simp] theorem State.withJobs_port (s : State) (x : List Job) : (s.withJobs x).port = s.port := rfl
@[simp] theorem State.withJobs_regions (s : State) (x : List Job) : (s.withJobs x).regions = s.regions := rfl
@[simp] theorem State.withJobs_sources (s : State) (x : List Job) : (s.withJobs x).sources = s.sources := rfl
@[simp] theorem State.withJobs_captures (s : State) (x : List Job) : (s.withJobs x).captures = s.captures := rfl
@[simp] theorem State.withJobs_events (s : State) (x : List Job) : (s.withJobs x).events = s.events := rfl
@[simp] theorem State.withJobs_link (s : State) (x : List Job) : (s.withJobs x).link = s.link := rfl
@[simp] theorem State.withJobs_control (s : State) (x : List Job) : (s.withJobs x).control = s.control := rfl
@[simp] theorem State.withJobs_pending (s : State) (x : List Job) : (s.withJobs x).pending = s.pending := rfl

@[simp] theorem State.withMarkPending_engine (s : State) (x : SourceSet) : (s.withMarkPending x).engine = { s.engine with markPending := x } := rfl
@[simp] theorem State.withMarkPending_settings (s : State) (x : SourceSet) : (s.withMarkPending x).settings = s.settings := rfl
@[simp] theorem State.withMarkPending_host (s : State) (x : SourceSet) : (s.withMarkPending x).host = s.host := rfl
@[simp] theorem State.withMarkPending_port (s : State) (x : SourceSet) : (s.withMarkPending x).port = s.port := rfl
@[simp] theorem State.withMarkPending_regions (s : State) (x : SourceSet) : (s.withMarkPending x).regions = s.regions := rfl
@[simp] theorem State.withMarkPending_sources (s : State) (x : SourceSet) : (s.withMarkPending x).sources = s.sources := rfl
@[simp] theorem State.withMarkPending_captures (s : State) (x : SourceSet) : (s.withMarkPending x).captures = s.captures := rfl
@[simp] theorem State.withMarkPending_events (s : State) (x : SourceSet) : (s.withMarkPending x).events = s.events := rfl
@[simp] theorem State.withMarkPending_link (s : State) (x : SourceSet) : (s.withMarkPending x).link = s.link := rfl
@[simp] theorem State.withMarkPending_control (s : State) (x : SourceSet) : (s.withMarkPending x).control = s.control := rfl
@[simp] theorem State.withMarkPending_pending (s : State) (x : SourceSet) : (s.withMarkPending x).pending = s.pending := rfl

@[simp] theorem State.withAnchor_engine (s : State) (x : Option (Copy × Word)) : (s.withAnchor x).engine = { s.engine with anchor := x } := rfl
@[simp] theorem State.withAnchor_settings (s : State) (x : Option (Copy × Word)) : (s.withAnchor x).settings = s.settings := rfl
@[simp] theorem State.withAnchor_host (s : State) (x : Option (Copy × Word)) : (s.withAnchor x).host = s.host := rfl
@[simp] theorem State.withAnchor_port (s : State) (x : Option (Copy × Word)) : (s.withAnchor x).port = s.port := rfl
@[simp] theorem State.withAnchor_regions (s : State) (x : Option (Copy × Word)) : (s.withAnchor x).regions = s.regions := rfl
@[simp] theorem State.withAnchor_sources (s : State) (x : Option (Copy × Word)) : (s.withAnchor x).sources = s.sources := rfl
@[simp] theorem State.withAnchor_captures (s : State) (x : Option (Copy × Word)) : (s.withAnchor x).captures = s.captures := rfl
@[simp] theorem State.withAnchor_events (s : State) (x : Option (Copy × Word)) : (s.withAnchor x).events = s.events := rfl
@[simp] theorem State.withAnchor_link (s : State) (x : Option (Copy × Word)) : (s.withAnchor x).link = s.link := rfl
@[simp] theorem State.withAnchor_control (s : State) (x : Option (Copy × Word)) : (s.withAnchor x).control = s.control := rfl
@[simp] theorem State.withAnchor_pending (s : State) (x : Option (Copy × Word)) : (s.withAnchor x).pending = s.pending := rfl

@[simp] theorem State.withGeometry_engine (s : State) (x : Option (Fin 8)) : (s.withGeometry x).engine = { s.engine with geometry := x } := rfl
@[simp] theorem State.withGeometry_settings (s : State) (x : Option (Fin 8)) : (s.withGeometry x).settings = s.settings := rfl
@[simp] theorem State.withGeometry_host (s : State) (x : Option (Fin 8)) : (s.withGeometry x).host = s.host := rfl
@[simp] theorem State.withGeometry_port (s : State) (x : Option (Fin 8)) : (s.withGeometry x).port = s.port := rfl
@[simp] theorem State.withGeometry_regions (s : State) (x : Option (Fin 8)) : (s.withGeometry x).regions = s.regions := rfl
@[simp] theorem State.withGeometry_sources (s : State) (x : Option (Fin 8)) : (s.withGeometry x).sources = s.sources := rfl
@[simp] theorem State.withGeometry_captures (s : State) (x : Option (Fin 8)) : (s.withGeometry x).captures = s.captures := rfl
@[simp] theorem State.withGeometry_events (s : State) (x : Option (Fin 8)) : (s.withGeometry x).events = s.events := rfl
@[simp] theorem State.withGeometry_link (s : State) (x : Option (Fin 8)) : (s.withGeometry x).link = s.link := rfl
@[simp] theorem State.withGeometry_control (s : State) (x : Option (Fin 8)) : (s.withGeometry x).control = s.control := rfl
@[simp] theorem State.withGeometry_pending (s : State) (x : Option (Fin 8)) : (s.withGeometry x).pending = s.pending := rfl

@[simp] theorem State.withPeek_engine (s : State) (x : PeekBuffer) : (s.withPeek x).engine = { s.engine with peek := x } := rfl
@[simp] theorem State.withPeek_settings (s : State) (x : PeekBuffer) : (s.withPeek x).settings = s.settings := rfl
@[simp] theorem State.withPeek_host (s : State) (x : PeekBuffer) : (s.withPeek x).host = s.host := rfl
@[simp] theorem State.withPeek_port (s : State) (x : PeekBuffer) : (s.withPeek x).port = s.port := rfl
@[simp] theorem State.withPeek_regions (s : State) (x : PeekBuffer) : (s.withPeek x).regions = s.regions := rfl
@[simp] theorem State.withPeek_sources (s : State) (x : PeekBuffer) : (s.withPeek x).sources = s.sources := rfl
@[simp] theorem State.withPeek_captures (s : State) (x : PeekBuffer) : (s.withPeek x).captures = s.captures := rfl
@[simp] theorem State.withPeek_events (s : State) (x : PeekBuffer) : (s.withPeek x).events = s.events := rfl
@[simp] theorem State.withPeek_link (s : State) (x : PeekBuffer) : (s.withPeek x).link = s.link := rfl
@[simp] theorem State.withPeek_control (s : State) (x : PeekBuffer) : (s.withPeek x).control = s.control := rfl
@[simp] theorem State.withPeek_pending (s : State) (x : PeekBuffer) : (s.withPeek x).pending = s.pending := rfl

@[simp] theorem State.withSettings_engine (s : State) (x : Settings) : (s.withSettings x).engine = s.engine := rfl
@[simp] theorem State.withSettings_settings (s : State) (x : Settings) : (s.withSettings x).settings = x := rfl
@[simp] theorem State.withSettings_host (s : State) (x : Settings) : (s.withSettings x).host = s.host := rfl
@[simp] theorem State.withSettings_port (s : State) (x : Settings) : (s.withSettings x).port = s.port := rfl
@[simp] theorem State.withSettings_regions (s : State) (x : Settings) : (s.withSettings x).regions = s.regions := rfl
@[simp] theorem State.withSettings_sources (s : State) (x : Settings) : (s.withSettings x).sources = s.sources := rfl
@[simp] theorem State.withSettings_captures (s : State) (x : Settings) : (s.withSettings x).captures = s.captures := rfl
@[simp] theorem State.withSettings_events (s : State) (x : Settings) : (s.withSettings x).events = s.events := rfl
@[simp] theorem State.withSettings_link (s : State) (x : Settings) : (s.withSettings x).link = s.link := rfl
@[simp] theorem State.withSettings_control (s : State) (x : Settings) : (s.withSettings x).control = s.control := rfl
@[simp] theorem State.withSettings_pending (s : State) (x : Settings) : (s.withSettings x).pending = s.pending := rfl

@[simp] theorem State.withHost_engine (s : State) (x : HostPort) : (s.withHost x).engine = s.engine := rfl
@[simp] theorem State.withHost_settings (s : State) (x : HostPort) : (s.withHost x).settings = s.settings := rfl
@[simp] theorem State.withHost_host (s : State) (x : HostPort) : (s.withHost x).host = x := rfl
@[simp] theorem State.withHost_port (s : State) (x : HostPort) : (s.withHost x).port = s.port := rfl
@[simp] theorem State.withHost_regions (s : State) (x : HostPort) : (s.withHost x).regions = s.regions := rfl
@[simp] theorem State.withHost_sources (s : State) (x : HostPort) : (s.withHost x).sources = s.sources := rfl
@[simp] theorem State.withHost_captures (s : State) (x : HostPort) : (s.withHost x).captures = s.captures := rfl
@[simp] theorem State.withHost_events (s : State) (x : HostPort) : (s.withHost x).events = s.events := rfl
@[simp] theorem State.withHost_link (s : State) (x : HostPort) : (s.withHost x).link = s.link := rfl
@[simp] theorem State.withHost_control (s : State) (x : HostPort) : (s.withHost x).control = s.control := rfl
@[simp] theorem State.withHost_pending (s : State) (x : HostPort) : (s.withHost x).pending = s.pending := rfl

@[simp] theorem State.withCurrent_engine (s : State) (x : Option HostAccess) : (s.withCurrent x).engine = s.engine := rfl
@[simp] theorem State.withCurrent_settings (s : State) (x : Option HostAccess) : (s.withCurrent x).settings = s.settings := rfl
@[simp] theorem State.withCurrent_host (s : State) (x : Option HostAccess) : (s.withCurrent x).host = { s.host with current := x } := rfl
@[simp] theorem State.withCurrent_port (s : State) (x : Option HostAccess) : (s.withCurrent x).port = s.port := rfl
@[simp] theorem State.withCurrent_regions (s : State) (x : Option HostAccess) : (s.withCurrent x).regions = s.regions := rfl
@[simp] theorem State.withCurrent_sources (s : State) (x : Option HostAccess) : (s.withCurrent x).sources = s.sources := rfl
@[simp] theorem State.withCurrent_captures (s : State) (x : Option HostAccess) : (s.withCurrent x).captures = s.captures := rfl
@[simp] theorem State.withCurrent_events (s : State) (x : Option HostAccess) : (s.withCurrent x).events = s.events := rfl
@[simp] theorem State.withCurrent_link (s : State) (x : Option HostAccess) : (s.withCurrent x).link = s.link := rfl
@[simp] theorem State.withCurrent_control (s : State) (x : Option HostAccess) : (s.withCurrent x).control = s.control := rfl
@[simp] theorem State.withCurrent_pending (s : State) (x : Option HostAccess) : (s.withCurrent x).pending = s.pending := rfl

@[simp] theorem State.withPort_engine (s : State) (x : MemoryPort) : (s.withPort x).engine = s.engine := rfl
@[simp] theorem State.withPort_settings (s : State) (x : MemoryPort) : (s.withPort x).settings = s.settings := rfl
@[simp] theorem State.withPort_host (s : State) (x : MemoryPort) : (s.withPort x).host = s.host := rfl
@[simp] theorem State.withPort_port (s : State) (x : MemoryPort) : (s.withPort x).port = x := rfl
@[simp] theorem State.withPort_regions (s : State) (x : MemoryPort) : (s.withPort x).regions = s.regions := rfl
@[simp] theorem State.withPort_sources (s : State) (x : MemoryPort) : (s.withPort x).sources = s.sources := rfl
@[simp] theorem State.withPort_captures (s : State) (x : MemoryPort) : (s.withPort x).captures = s.captures := rfl
@[simp] theorem State.withPort_events (s : State) (x : MemoryPort) : (s.withPort x).events = s.events := rfl
@[simp] theorem State.withPort_link (s : State) (x : MemoryPort) : (s.withPort x).link = s.link := rfl
@[simp] theorem State.withPort_control (s : State) (x : MemoryPort) : (s.withPort x).control = s.control := rfl
@[simp] theorem State.withPort_pending (s : State) (x : MemoryPort) : (s.withPort x).pending = s.pending := rfl

@[simp] theorem State.withTenancy_engine (s : State) (x : Option Tenancy) : (s.withTenancy x).engine = s.engine := rfl
@[simp] theorem State.withTenancy_settings (s : State) (x : Option Tenancy) : (s.withTenancy x).settings = s.settings := rfl
@[simp] theorem State.withTenancy_host (s : State) (x : Option Tenancy) : (s.withTenancy x).host = s.host := rfl
@[simp] theorem State.withTenancy_port (s : State) (x : Option Tenancy) : (s.withTenancy x).port = { s.port with tenancy := x } := rfl
@[simp] theorem State.withTenancy_regions (s : State) (x : Option Tenancy) : (s.withTenancy x).regions = s.regions := rfl
@[simp] theorem State.withTenancy_sources (s : State) (x : Option Tenancy) : (s.withTenancy x).sources = s.sources := rfl
@[simp] theorem State.withTenancy_captures (s : State) (x : Option Tenancy) : (s.withTenancy x).captures = s.captures := rfl
@[simp] theorem State.withTenancy_events (s : State) (x : Option Tenancy) : (s.withTenancy x).events = s.events := rfl
@[simp] theorem State.withTenancy_link (s : State) (x : Option Tenancy) : (s.withTenancy x).link = s.link := rfl
@[simp] theorem State.withTenancy_control (s : State) (x : Option Tenancy) : (s.withTenancy x).control = s.control := rfl
@[simp] theorem State.withTenancy_pending (s : State) (x : Option Tenancy) : (s.withTenancy x).pending = s.pending := rfl

@[simp] theorem State.withRegions_engine (s : State) (x : RegionTable) : (s.withRegions x).engine = s.engine := rfl
@[simp] theorem State.withRegions_settings (s : State) (x : RegionTable) : (s.withRegions x).settings = s.settings := rfl
@[simp] theorem State.withRegions_host (s : State) (x : RegionTable) : (s.withRegions x).host = s.host := rfl
@[simp] theorem State.withRegions_port (s : State) (x : RegionTable) : (s.withRegions x).port = s.port := rfl
@[simp] theorem State.withRegions_regions (s : State) (x : RegionTable) : (s.withRegions x).regions = x := rfl
@[simp] theorem State.withRegions_sources (s : State) (x : RegionTable) : (s.withRegions x).sources = s.sources := rfl
@[simp] theorem State.withRegions_captures (s : State) (x : RegionTable) : (s.withRegions x).captures = s.captures := rfl
@[simp] theorem State.withRegions_events (s : State) (x : RegionTable) : (s.withRegions x).events = s.events := rfl
@[simp] theorem State.withRegions_link (s : State) (x : RegionTable) : (s.withRegions x).link = s.link := rfl
@[simp] theorem State.withRegions_control (s : State) (x : RegionTable) : (s.withRegions x).control = s.control := rfl
@[simp] theorem State.withRegions_pending (s : State) (x : RegionTable) : (s.withRegions x).pending = s.pending := rfl

@[simp] theorem State.withSources_engine (s : State) (x : MarkSources) : (s.withSources x).engine = s.engine := rfl
@[simp] theorem State.withSources_settings (s : State) (x : MarkSources) : (s.withSources x).settings = s.settings := rfl
@[simp] theorem State.withSources_host (s : State) (x : MarkSources) : (s.withSources x).host = s.host := rfl
@[simp] theorem State.withSources_port (s : State) (x : MarkSources) : (s.withSources x).port = s.port := rfl
@[simp] theorem State.withSources_regions (s : State) (x : MarkSources) : (s.withSources x).regions = s.regions := rfl
@[simp] theorem State.withSources_sources (s : State) (x : MarkSources) : (s.withSources x).sources = x := rfl
@[simp] theorem State.withSources_captures (s : State) (x : MarkSources) : (s.withSources x).captures = s.captures := rfl
@[simp] theorem State.withSources_events (s : State) (x : MarkSources) : (s.withSources x).events = s.events := rfl
@[simp] theorem State.withSources_link (s : State) (x : MarkSources) : (s.withSources x).link = s.link := rfl
@[simp] theorem State.withSources_control (s : State) (x : MarkSources) : (s.withSources x).control = s.control := rfl
@[simp] theorem State.withSources_pending (s : State) (x : MarkSources) : (s.withSources x).pending = s.pending := rfl

@[simp] theorem State.withTimer_engine (s : State) (x : Option Nat) : (s.withTimer x).engine = s.engine := rfl
@[simp] theorem State.withTimer_settings (s : State) (x : Option Nat) : (s.withTimer x).settings = s.settings := rfl
@[simp] theorem State.withTimer_host (s : State) (x : Option Nat) : (s.withTimer x).host = s.host := rfl
@[simp] theorem State.withTimer_port (s : State) (x : Option Nat) : (s.withTimer x).port = s.port := rfl
@[simp] theorem State.withTimer_regions (s : State) (x : Option Nat) : (s.withTimer x).regions = s.regions := rfl
@[simp] theorem State.withTimer_sources (s : State) (x : Option Nat) : (s.withTimer x).sources = { s.sources with timer := x } := rfl
@[simp] theorem State.withTimer_captures (s : State) (x : Option Nat) : (s.withTimer x).captures = s.captures := rfl
@[simp] theorem State.withTimer_events (s : State) (x : Option Nat) : (s.withTimer x).events = s.events := rfl
@[simp] theorem State.withTimer_link (s : State) (x : Option Nat) : (s.withTimer x).link = s.link := rfl
@[simp] theorem State.withTimer_control (s : State) (x : Option Nat) : (s.withTimer x).control = s.control := rfl
@[simp] theorem State.withTimer_pending (s : State) (x : Option Nat) : (s.withTimer x).pending = s.pending := rfl

@[simp] theorem State.withCaptures_engine (s : State) (x : Vector CaptureSlot Config.captureCount) : (s.withCaptures x).engine = s.engine := rfl
@[simp] theorem State.withCaptures_settings (s : State) (x : Vector CaptureSlot Config.captureCount) : (s.withCaptures x).settings = s.settings := rfl
@[simp] theorem State.withCaptures_host (s : State) (x : Vector CaptureSlot Config.captureCount) : (s.withCaptures x).host = s.host := rfl
@[simp] theorem State.withCaptures_port (s : State) (x : Vector CaptureSlot Config.captureCount) : (s.withCaptures x).port = s.port := rfl
@[simp] theorem State.withCaptures_regions (s : State) (x : Vector CaptureSlot Config.captureCount) : (s.withCaptures x).regions = s.regions := rfl
@[simp] theorem State.withCaptures_sources (s : State) (x : Vector CaptureSlot Config.captureCount) : (s.withCaptures x).sources = s.sources := rfl
@[simp] theorem State.withCaptures_captures (s : State) (x : Vector CaptureSlot Config.captureCount) : (s.withCaptures x).captures = x := rfl
@[simp] theorem State.withCaptures_events (s : State) (x : Vector CaptureSlot Config.captureCount) : (s.withCaptures x).events = s.events := rfl
@[simp] theorem State.withCaptures_link (s : State) (x : Vector CaptureSlot Config.captureCount) : (s.withCaptures x).link = s.link := rfl
@[simp] theorem State.withCaptures_control (s : State) (x : Vector CaptureSlot Config.captureCount) : (s.withCaptures x).control = s.control := rfl
@[simp] theorem State.withCaptures_pending (s : State) (x : Vector CaptureSlot Config.captureCount) : (s.withCaptures x).pending = s.pending := rfl

@[simp] theorem State.withEvents_engine (s : State) (x : EventUnit) : (s.withEvents x).engine = s.engine := rfl
@[simp] theorem State.withEvents_settings (s : State) (x : EventUnit) : (s.withEvents x).settings = s.settings := rfl
@[simp] theorem State.withEvents_host (s : State) (x : EventUnit) : (s.withEvents x).host = s.host := rfl
@[simp] theorem State.withEvents_port (s : State) (x : EventUnit) : (s.withEvents x).port = s.port := rfl
@[simp] theorem State.withEvents_regions (s : State) (x : EventUnit) : (s.withEvents x).regions = s.regions := rfl
@[simp] theorem State.withEvents_sources (s : State) (x : EventUnit) : (s.withEvents x).sources = s.sources := rfl
@[simp] theorem State.withEvents_captures (s : State) (x : EventUnit) : (s.withEvents x).captures = s.captures := rfl
@[simp] theorem State.withEvents_events (s : State) (x : EventUnit) : (s.withEvents x).events = x := rfl
@[simp] theorem State.withEvents_link (s : State) (x : EventUnit) : (s.withEvents x).link = s.link := rfl
@[simp] theorem State.withEvents_control (s : State) (x : EventUnit) : (s.withEvents x).control = s.control := rfl
@[simp] theorem State.withEvents_pending (s : State) (x : EventUnit) : (s.withEvents x).pending = s.pending := rfl

@[simp] theorem State.withLink_engine (s : State) (x : Link) : (s.withLink x).engine = s.engine := rfl
@[simp] theorem State.withLink_settings (s : State) (x : Link) : (s.withLink x).settings = s.settings := rfl
@[simp] theorem State.withLink_host (s : State) (x : Link) : (s.withLink x).host = s.host := rfl
@[simp] theorem State.withLink_port (s : State) (x : Link) : (s.withLink x).port = s.port := rfl
@[simp] theorem State.withLink_regions (s : State) (x : Link) : (s.withLink x).regions = s.regions := rfl
@[simp] theorem State.withLink_sources (s : State) (x : Link) : (s.withLink x).sources = s.sources := rfl
@[simp] theorem State.withLink_captures (s : State) (x : Link) : (s.withLink x).captures = s.captures := rfl
@[simp] theorem State.withLink_events (s : State) (x : Link) : (s.withLink x).events = s.events := rfl
@[simp] theorem State.withLink_link (s : State) (x : Link) : (s.withLink x).link = x := rfl
@[simp] theorem State.withLink_control (s : State) (x : Link) : (s.withLink x).control = s.control := rfl
@[simp] theorem State.withLink_pending (s : State) (x : Link) : (s.withLink x).pending = s.pending := rfl

@[simp] theorem State.withControl_engine (s : State) (x : Control) : (s.withControl x).engine = s.engine := rfl
@[simp] theorem State.withControl_settings (s : State) (x : Control) : (s.withControl x).settings = s.settings := rfl
@[simp] theorem State.withControl_host (s : State) (x : Control) : (s.withControl x).host = s.host := rfl
@[simp] theorem State.withControl_port (s : State) (x : Control) : (s.withControl x).port = s.port := rfl
@[simp] theorem State.withControl_regions (s : State) (x : Control) : (s.withControl x).regions = s.regions := rfl
@[simp] theorem State.withControl_sources (s : State) (x : Control) : (s.withControl x).sources = s.sources := rfl
@[simp] theorem State.withControl_captures (s : State) (x : Control) : (s.withControl x).captures = s.captures := rfl
@[simp] theorem State.withControl_events (s : State) (x : Control) : (s.withControl x).events = s.events := rfl
@[simp] theorem State.withControl_link (s : State) (x : Control) : (s.withControl x).link = s.link := rfl
@[simp] theorem State.withControl_control (s : State) (x : Control) : (s.withControl x).control = x := rfl
@[simp] theorem State.withControl_pending (s : State) (x : Control) : (s.withControl x).pending = s.pending := rfl

@[simp] theorem State.withPending_engine (s : State) (x : List Instr) : (s.withPending x).engine = s.engine := rfl
@[simp] theorem State.withPending_settings (s : State) (x : List Instr) : (s.withPending x).settings = s.settings := rfl
@[simp] theorem State.withPending_host (s : State) (x : List Instr) : (s.withPending x).host = s.host := rfl
@[simp] theorem State.withPending_port (s : State) (x : List Instr) : (s.withPending x).port = s.port := rfl
@[simp] theorem State.withPending_regions (s : State) (x : List Instr) : (s.withPending x).regions = s.regions := rfl
@[simp] theorem State.withPending_sources (s : State) (x : List Instr) : (s.withPending x).sources = s.sources := rfl
@[simp] theorem State.withPending_captures (s : State) (x : List Instr) : (s.withPending x).captures = s.captures := rfl
@[simp] theorem State.withPending_events (s : State) (x : List Instr) : (s.withPending x).events = s.events := rfl
@[simp] theorem State.withPending_link (s : State) (x : List Instr) : (s.withPending x).link = s.link := rfl
@[simp] theorem State.withPending_control (s : State) (x : List Instr) : (s.withPending x).control = s.control := rfl
@[simp] theorem State.withPending_pending (s : State) (x : List Instr) : (s.withPending x).pending = x := rfl

end Sys2Proof.Machine
end

