-- ==== Sys2Proof/Laws/Ops.lean ====
section
/-!
SUPPORT. What each shared operation leaves unchanged, said once. An operation not listed as changing a block leaves the whole
block as it was; where it changes the engine only through a mark request, the rest of the engine is listed too.
-/
namespace Sys2Proof.Machine

/-- Setting a flag touches the event unit alone (R157). -/
@[simp] theorem setFlag_frame (f : Flag) (s : State) :
    (setFlag f s).engine = s.engine ∧ (setFlag f s).settings = s.settings ∧ (setFlag f s).host = s.host ∧
    (setFlag f s).port = s.port ∧ (setFlag f s).regions = s.regions ∧ (setFlag f s).sources = s.sources ∧
    (setFlag f s).captures = s.captures ∧ (setFlag f s).link = s.link ∧ (setFlag f s).control = s.control ∧
    (setFlag f s).pending = s.pending := by
  simp [setFlag]

/-- Clearing flags touches the event unit alone (R158). -/
@[simp] theorem clearFlags_frame (x : FlagSet) (s : State) :
    (clearFlags x s).engine = s.engine ∧ (clearFlags x s).settings = s.settings ∧ (clearFlags x s).host = s.host ∧
    (clearFlags x s).port = s.port ∧ (clearFlags x s).regions = s.regions ∧ (clearFlags x s).sources = s.sources ∧
    (clearFlags x s).captures = s.captures ∧ (clearFlags x s).link = s.link ∧ (clearFlags x s).control = s.control ∧
    (clearFlags x s).pending = s.pending := by
  simp [clearFlags]

/-- An offer touches the capture slots and their flags alone (R145, R151). -/
@[simp] theorem offer_frame (o : Offer) (s : State) :
    (offer o s).engine = s.engine ∧ (offer o s).settings = s.settings ∧ (offer o s).host = s.host ∧
    (offer o s).port = s.port ∧ (offer o s).regions = s.regions ∧ (offer o s).sources = s.sources ∧
    (offer o s).link = s.link ∧ (offer o s).control = s.control ∧ (offer o s).pending = s.pending := by
  simp [offer]

/-- A source that joins touches the pending set and the job queue alone (R75). -/
@[simp] theorem joinPending_frame (x : Source) (s : State) :
    (joinPending x s).settings = s.settings ∧ (joinPending x s).host = s.host ∧ (joinPending x s).port = s.port ∧
    (joinPending x s).regions = s.regions ∧ (joinPending x s).sources = s.sources ∧
    (joinPending x s).captures = s.captures ∧ (joinPending x s).events = s.events ∧ (joinPending x s).link = s.link ∧
    (joinPending x s).control = s.control ∧ (joinPending x s).pending = s.pending ∧
    (joinPending x s).engine.state = s.engine.state ∧ (joinPending x s).engine.journal = s.engine.journal ∧
    (joinPending x s).engine.geometry = s.engine.geometry ∧ (joinPending x s).engine.anchor = s.engine.anchor ∧
    (joinPending x s).engine.action = s.engine.action ∧ (joinPending x s).engine.exclusive = s.engine.exclusive ∧
    (joinPending x s).engine.rollback = s.engine.rollback ∧ (joinPending x s).engine.steps = s.engine.steps ∧
    (joinPending x s).engine.recovery = s.engine.recovery ∧ (joinPending x s).engine.peek = s.engine.peek := by
  simp [joinPending]

/-- A mark request touches the pending set, the job queue and MARK_MISSED alone (R74). -/
@[simp] theorem requestMark_frame (x : Source) (s : State) :
    (requestMark x s).settings = s.settings ∧ (requestMark x s).host = s.host ∧ (requestMark x s).port = s.port ∧
    (requestMark x s).regions = s.regions ∧ (requestMark x s).sources = s.sources ∧
    (requestMark x s).captures = s.captures ∧ (requestMark x s).link = s.link ∧ (requestMark x s).control = s.control ∧
    (requestMark x s).pending = s.pending ∧ (requestMark x s).engine.state = s.engine.state ∧
    (requestMark x s).engine.journal = s.engine.journal ∧ (requestMark x s).engine.geometry = s.engine.geometry ∧
    (requestMark x s).engine.anchor = s.engine.anchor ∧ (requestMark x s).engine.action = s.engine.action ∧
    (requestMark x s).engine.exclusive = s.engine.exclusive ∧ (requestMark x s).engine.rollback = s.engine.rollback ∧
    (requestMark x s).engine.steps = s.engine.steps ∧ (requestMark x s).engine.recovery = s.engine.recovery ∧
    (requestMark x s).engine.peek = s.engine.peek := by
  unfold requestMark
  (repeat' split) <;> simp

/-- Stopping a QUIET timer touches the timer alone (R85). -/
@[simp] theorem stopQuietTimer_frame (s : State) :
    (stopQuietTimer s).engine = s.engine ∧ (stopQuietTimer s).settings = s.settings ∧ (stopQuietTimer s).host = s.host ∧
    (stopQuietTimer s).port = s.port ∧ (stopQuietTimer s).regions = s.regions ∧ (stopQuietTimer s).captures = s.captures ∧
    (stopQuietTimer s).events = s.events ∧ (stopQuietTimer s).link = s.link ∧ (stopQuietTimer s).control = s.control ∧
    (stopQuietTimer s).pending = s.pending := by
  unfold stopQuietTimer
  (repeat' split) <;> simp

/-- A filtered change touches the mark sources, the flags, the captures and the pending set alone (R82). -/
@[simp] theorem filteredChange_frame (s : State) :
    (filteredChange s).settings = s.settings ∧ (filteredChange s).host = s.host ∧ (filteredChange s).port = s.port ∧
    (filteredChange s).regions = s.regions ∧ (filteredChange s).link = s.link ∧ (filteredChange s).control = s.control ∧
    (filteredChange s).pending = s.pending ∧ (filteredChange s).engine.state = s.engine.state ∧
    (filteredChange s).engine.journal = s.engine.journal ∧ (filteredChange s).engine.geometry = s.engine.geometry ∧
    (filteredChange s).engine.anchor = s.engine.anchor ∧ (filteredChange s).engine.action = s.engine.action ∧
    (filteredChange s).engine.exclusive = s.engine.exclusive ∧ (filteredChange s).engine.rollback = s.engine.rollback ∧
    (filteredChange s).engine.steps = s.engine.steps ∧ (filteredChange s).engine.recovery = s.engine.recovery ∧
    (filteredChange s).engine.peek = s.engine.peek := by
  unfold filteredChange
  (repeat' split) <;> simp

/-- A change that is due touches what a filtered change touches (R81). -/
@[simp] theorem changeIfDue_frame (s : State) :
    (changeIfDue s).settings = s.settings ∧ (changeIfDue s).host = s.host ∧ (changeIfDue s).port = s.port ∧
    (changeIfDue s).regions = s.regions ∧ (changeIfDue s).link = s.link ∧ (changeIfDue s).control = s.control ∧
    (changeIfDue s).pending = s.pending ∧ (changeIfDue s).engine.state = s.engine.state ∧
    (changeIfDue s).engine.journal = s.engine.journal ∧ (changeIfDue s).engine.geometry = s.engine.geometry ∧
    (changeIfDue s).engine.anchor = s.engine.anchor ∧ (changeIfDue s).engine.action = s.engine.action ∧
    (changeIfDue s).engine.exclusive = s.engine.exclusive ∧ (changeIfDue s).engine.rollback = s.engine.rollback ∧
    (changeIfDue s).engine.steps = s.engine.steps ∧ (changeIfDue s).engine.recovery = s.engine.recovery ∧
    (changeIfDue s).engine.peek = s.engine.peek := by
  unfold changeIfDue
  (repeat' split) <;> simp

/-- A timer's expiry touches the timer and what a mark request touches (R83). -/
@[simp] theorem expireTimer_frame (s : State) :
    (expireTimer s).settings = s.settings ∧ (expireTimer s).host = s.host ∧ (expireTimer s).port = s.port ∧
    (expireTimer s).regions = s.regions ∧ (expireTimer s).captures = s.captures ∧ (expireTimer s).link = s.link ∧
    (expireTimer s).control = s.control ∧ (expireTimer s).pending = s.pending ∧
    (expireTimer s).engine.state = s.engine.state ∧ (expireTimer s).engine.journal = s.engine.journal ∧
    (expireTimer s).engine.geometry = s.engine.geometry ∧ (expireTimer s).engine.anchor = s.engine.anchor ∧
    (expireTimer s).engine.action = s.engine.action ∧ (expireTimer s).engine.exclusive = s.engine.exclusive ∧
    (expireTimer s).engine.rollback = s.engine.rollback ∧ (expireTimer s).engine.steps = s.engine.steps ∧
    (expireTimer s).engine.recovery = s.engine.recovery ∧ (expireTimer s).engine.peek = s.engine.peek := by
  unfold expireTimer
  (repeat' split) <;> simp

/-- Replacing an active entry touches the region table alone. -/
@[simp] theorem setEntry_frame (i : Fin Config.regionCount) (e : ActiveEntry) (s : State) :
    (setEntry i e s).engine = s.engine ∧ (setEntry i e s).settings = s.settings ∧ (setEntry i e s).host = s.host ∧
    (setEntry i e s).port = s.port ∧ (setEntry i e s).sources = s.sources ∧ (setEntry i e s).captures = s.captures ∧
    (setEntry i e s).events = s.events ∧ (setEntry i e s).link = s.link ∧ (setEntry i e s).control = s.control ∧
    (setEntry i e s).pending = s.pending := by
  simp [setEntry]

/-- A match touches the hit flag, COMPARE_MATCH and the captures alone (R37). -/
@[simp] theorem compareMatch_frame (i : Fin Config.regionCount) (s : State) :
    (compareMatch i s).engine = s.engine ∧ (compareMatch i s).settings = s.settings ∧ (compareMatch i s).host = s.host ∧
    (compareMatch i s).port = s.port ∧ (compareMatch i s).sources = s.sources ∧ (compareMatch i s).link = s.link ∧
    (compareMatch i s).control = s.control ∧ (compareMatch i s).pending = s.pending := by
  simp [compareMatch]

/-- A match action touches what a mark request touches (R38). -/
@[simp] theorem compareAct_frame (i : Fin Config.regionCount) (s : State) :
    (compareAct i s).settings = s.settings ∧ (compareAct i s).host = s.host ∧ (compareAct i s).port = s.port ∧
    (compareAct i s).regions = s.regions ∧ (compareAct i s).sources = s.sources ∧ (compareAct i s).captures = s.captures ∧
    (compareAct i s).link = s.link ∧ (compareAct i s).control = s.control ∧ (compareAct i s).pending = s.pending ∧
    (compareAct i s).engine.state = s.engine.state ∧ (compareAct i s).engine.journal = s.engine.journal ∧
    (compareAct i s).engine.geometry = s.engine.geometry ∧ (compareAct i s).engine.anchor = s.engine.anchor ∧
    (compareAct i s).engine.action = s.engine.action ∧ (compareAct i s).engine.exclusive = s.engine.exclusive ∧
    (compareAct i s).engine.rollback = s.engine.rollback ∧ (compareAct i s).engine.steps = s.engine.steps ∧
    (compareAct i s).engine.recovery = s.engine.recovery ∧ (compareAct i s).engine.peek = s.engine.peek := by
  unfold compareAct
  (repeat' split) <;> simp

/-- Ring touches the counter alone (R39). -/
@[simp] theorem ringReturn_frame (i : Fin Config.regionCount) (s : State) :
    (ringReturn i s).engine = s.engine ∧ (ringReturn i s).settings = s.settings ∧ (ringReturn i s).host = s.host ∧
    (ringReturn i s).port = s.port ∧ (ringReturn i s).sources = s.sources ∧ (ringReturn i s).captures = s.captures ∧
    (ringReturn i s).events = s.events ∧ (ringReturn i s).link = s.link ∧ (ringReturn i s).control = s.control ∧
    (ringReturn i s).pending = s.pending := by
  unfold ringReturn
  (repeat' split) <;> simp

/-- A count touches its entry and what a match touches (R35 to R39). -/
@[simp] theorem countEntry_frame (i : Fin Config.regionCount) (s : State) :
    (countEntry i s).settings = s.settings ∧ (countEntry i s).host = s.host ∧ (countEntry i s).port = s.port ∧
    (countEntry i s).sources = s.sources ∧ (countEntry i s).link = s.link ∧ (countEntry i s).control = s.control ∧
    (countEntry i s).pending = s.pending ∧ (countEntry i s).engine.state = s.engine.state ∧
    (countEntry i s).engine.journal = s.engine.journal ∧ (countEntry i s).engine.geometry = s.engine.geometry ∧
    (countEntry i s).engine.anchor = s.engine.anchor ∧ (countEntry i s).engine.action = s.engine.action ∧
    (countEntry i s).engine.exclusive = s.engine.exclusive ∧ (countEntry i s).engine.rollback = s.engine.rollback ∧
    (countEntry i s).engine.steps = s.engine.steps ∧ (countEntry i s).engine.recovery = s.engine.recovery ∧
    (countEntry i s).engine.peek = s.engine.peek := by
  unfold countEntry
  (repeat' split) <;> simp

/-- Counting a word touches what a count touches (R35, R36). -/
@[simp] theorem countFor_frame (t : CountTarget) (g : Option Resolution) (s : State) :
    (countFor t g s).settings = s.settings ∧ (countFor t g s).host = s.host ∧ (countFor t g s).port = s.port ∧
    (countFor t g s).sources = s.sources ∧ (countFor t g s).link = s.link ∧ (countFor t g s).control = s.control ∧
    (countFor t g s).pending = s.pending ∧ (countFor t g s).engine.state = s.engine.state ∧
    (countFor t g s).engine.journal = s.engine.journal ∧ (countFor t g s).engine.geometry = s.engine.geometry ∧
    (countFor t g s).engine.anchor = s.engine.anchor ∧ (countFor t g s).engine.action = s.engine.action ∧
    (countFor t g s).engine.exclusive = s.engine.exclusive ∧ (countFor t g s).engine.rollback = s.engine.rollback ∧
    (countFor t g s).engine.steps = s.engine.steps ∧ (countFor t g s).engine.recovery = s.engine.recovery ∧
    (countFor t g s).engine.peek = s.engine.peek := by
  unfold countFor
  (repeat' split) <;> simp

/-- Installation touches the region table alone (R44). -/
@[simp] theorem install_frame (s : State) :
    (install s).engine = s.engine ∧ (install s).settings = s.settings ∧ (install s).host = s.host ∧
    (install s).port = s.port ∧ (install s).sources = s.sources ∧ (install s).captures = s.captures ∧
    (install s).events = s.events ∧ (install s).link = s.link ∧ (install s).control = s.control ∧
    (install s).pending = s.pending := by
  simp [install]

/-- The watermark check touches the flags and the captures alone (R22). -/
@[simp] theorem checkWatermark_frame (s : State) :
    (checkWatermark s).engine = s.engine ∧ (checkWatermark s).settings = s.settings ∧ (checkWatermark s).host = s.host ∧
    (checkWatermark s).port = s.port ∧ (checkWatermark s).regions = s.regions ∧ (checkWatermark s).sources = s.sources ∧
    (checkWatermark s).link = s.link ∧ (checkWatermark s).control = s.control ∧ (checkWatermark s).pending = s.pending := by
  unfold checkWatermark
  (repeat' split) <;> simp

/-- A mark append touches the journal and what the watermark touches (R16). -/
@[simp] theorem appendMark_frame (sources : SourceSet) (stamp : Word) (s : State) :
    (appendMark sources stamp s).settings = s.settings ∧ (appendMark sources stamp s).host = s.host ∧
    (appendMark sources stamp s).port = s.port ∧ (appendMark sources stamp s).regions = s.regions ∧
    (appendMark sources stamp s).sources = s.sources ∧ (appendMark sources stamp s).link = s.link ∧
    (appendMark sources stamp s).control = s.control ∧ (appendMark sources stamp s).pending = s.pending := by
  simp [appendMark]

/-- A notice touches the current word alone (R65). -/
@[simp] theorem wake_frame (s : State) :
    (wake s).engine = s.engine ∧ (wake s).settings = s.settings ∧ (wake s).port = s.port ∧ (wake s).regions = s.regions ∧
    (wake s).sources = s.sources ∧ (wake s).captures = s.captures ∧ (wake s).events = s.events ∧ (wake s).link = s.link ∧
    (wake s).control = s.control ∧ (wake s).pending = s.pending := by
  unfold wake
  (repeat' split) <;> simp

/-- A release touches the journal, EPOCH_RELEASED and a held word alone (R17). -/
@[simp] theorem releaseEpochs_frame (n : Nat) (s : State) :
    (releaseEpochs n s).settings = s.settings ∧ (releaseEpochs n s).port = s.port ∧
    (releaseEpochs n s).regions = s.regions ∧ (releaseEpochs n s).sources = s.sources ∧
    (releaseEpochs n s).captures = s.captures ∧ (releaseEpochs n s).link = s.link ∧
    (releaseEpochs n s).control = s.control ∧ (releaseEpochs n s).pending = s.pending := by
  simp [releaseEpochs]

/-- A whole-journal release touches the journal and a held word alone (R20). -/
@[simp] theorem releaseJournal_frame (s : State) :
    (releaseJournal s).settings = s.settings ∧ (releaseJournal s).port = s.port ∧ (releaseJournal s).regions = s.regions ∧
    (releaseJournal s).sources = s.sources ∧ (releaseJournal s).captures = s.captures ∧
    (releaseJournal s).events = s.events ∧ (releaseJournal s).link = s.link ∧ (releaseJournal s).control = s.control ∧
    (releaseJournal s).pending = s.pending := by
  simp [releaseJournal]

/-- A failed anchor write touches the engine, ANCHOR_FAULT, the timer and a held word alone (R127). -/
@[simp] theorem anchorFailure_frame (s : State) :
    (anchorFailure s).settings = s.settings ∧ (anchorFailure s).port = s.port ∧ (anchorFailure s).regions = s.regions ∧
    (anchorFailure s).captures = s.captures ∧ (anchorFailure s).link = s.link ∧ (anchorFailure s).control = s.control ∧
    (anchorFailure s).pending = s.pending := by
  simp [anchorFailure]

/-- Issuing a write touches the memory port alone (R112). -/
@[simp] theorem issueWrites_frame (w : Work) (a : Nat) (l : Lanes) (ws : List Word) (s : State) :
    (issueWrites w a l ws s).engine = s.engine ∧ (issueWrites w a l ws s).settings = s.settings ∧
    (issueWrites w a l ws s).host = s.host ∧ (issueWrites w a l ws s).regions = s.regions ∧
    (issueWrites w a l ws s).sources = s.sources ∧ (issueWrites w a l ws s).captures = s.captures ∧
    (issueWrites w a l ws s).events = s.events ∧ (issueWrites w a l ws s).link = s.link ∧
    (issueWrites w a l ws s).control = s.control ∧ (issueWrites w a l ws s).pending = s.pending := by
  unfold issueWrites
  (repeat' split) <;> simp

/-- Issuing a read touches the memory port alone (R112). -/
@[simp] theorem issueReads_frame (w : Work) (a n : Nat) (s : State) :
    (issueReads w a n s).engine = s.engine ∧ (issueReads w a n s).settings = s.settings ∧
    (issueReads w a n s).host = s.host ∧ (issueReads w a n s).regions = s.regions ∧
    (issueReads w a n s).sources = s.sources ∧ (issueReads w a n s).captures = s.captures ∧
    (issueReads w a n s).events = s.events ∧ (issueReads w a n s).link = s.link ∧
    (issueReads w a n s).control = s.control ∧ (issueReads w a n s).pending = s.pending := by
  simp [issueReads]

/-- Issuing a slot write touches the memory port alone (R112). -/
@[simp] theorem issueSlotWrite_frame (w : Work) (n : Nat) (e : Entry) (s : State) :
    (issueSlotWrite w n e s).engine = s.engine ∧ (issueSlotWrite w n e s).settings = s.settings ∧
    (issueSlotWrite w n e s).host = s.host ∧ (issueSlotWrite w n e s).regions = s.regions ∧
    (issueSlotWrite w n e s).sources = s.sources ∧ (issueSlotWrite w n e s).captures = s.captures ∧
    (issueSlotWrite w n e s).events = s.events ∧ (issueSlotWrite w n e s).link = s.link ∧
    (issueSlotWrite w n e s).control = s.control ∧ (issueSlotWrite w n e s).pending = s.pending := by
  simp [issueSlotWrite]

/-- Issuing a slot read touches the memory port alone (R112). -/
@[simp] theorem issueSlotRead_frame (w : Work) (n : Nat) (s : State) :
    (issueSlotRead w n s).engine = s.engine ∧ (issueSlotRead w n s).settings = s.settings ∧
    (issueSlotRead w n s).host = s.host ∧ (issueSlotRead w n s).regions = s.regions ∧
    (issueSlotRead w n s).sources = s.sources ∧ (issueSlotRead w n s).captures = s.captures ∧
    (issueSlotRead w n s).events = s.events ∧ (issueSlotRead w n s).link = s.link ∧
    (issueSlotRead w n s).control = s.control ∧ (issueSlotRead w n s).pending = s.pending := by
  simp [issueSlotRead]

/-- Issuing an anchor write touches the memory port alone (R112, R126). -/
@[simp] theorem issueAnchor_frame (w : Work) (f : AnchorFields) (s : State) :
    (issueAnchor w f s).engine = s.engine ∧ (issueAnchor w f s).settings = s.settings ∧ (issueAnchor w f s).host = s.host ∧
    (issueAnchor w f s).regions = s.regions ∧ (issueAnchor w f s).sources = s.sources ∧
    (issueAnchor w f s).captures = s.captures ∧ (issueAnchor w f s).events = s.events ∧ (issueAnchor w f s).link = s.link ∧
    (issueAnchor w f s).control = s.control ∧ (issueAnchor w f s).pending = s.pending := by
  simp [issueAnchor]

/-- A completed anchor write touches the anchor record alone (R126). -/
@[simp] theorem anchorWritten_frame (s : State) :
    (anchorWritten s).settings = s.settings ∧ (anchorWritten s).host = s.host ∧ (anchorWritten s).port = s.port ∧
    (anchorWritten s).regions = s.regions ∧ (anchorWritten s).sources = s.sources ∧
    (anchorWritten s).captures = s.captures ∧ (anchorWritten s).events = s.events ∧ (anchorWritten s).link = s.link ∧
    (anchorWritten s).control = s.control ∧ (anchorWritten s).pending = s.pending := by
  simp [anchorWritten]

/-- Giving the port back touches the memory port alone (R112). -/
@[simp] theorem endTenancy_frame (s : State) :
    (endTenancy s).engine = s.engine ∧ (endTenancy s).settings = s.settings ∧ (endTenancy s).host = s.host ∧
    (endTenancy s).regions = s.regions ∧ (endTenancy s).sources = s.sources ∧ (endTenancy s).captures = s.captures ∧
    (endTenancy s).events = s.events ∧ (endTenancy s).link = s.link ∧ (endTenancy s).control = s.control ∧
    (endTenancy s).pending = s.pending := by
  simp [endTenancy]

/-- A grant touches the last-granted side alone (R118). -/
@[simp] theorem grantTo_frame (x : Side) (s : State) :
    (grantTo x s).engine = s.engine ∧ (grantTo x s).settings = s.settings ∧ (grantTo x s).host = s.host ∧
    (grantTo x s).regions = s.regions ∧ (grantTo x s).sources = s.sources ∧ (grantTo x s).captures = s.captures ∧
    (grantTo x s).events = s.events ∧ (grantTo x s).link = s.link ∧ (grantTo x s).control = s.control ∧
    (grantTo x s).pending = s.pending := by
  simp [grantTo]

/-- A job that leaves touches the job queue alone (R116). -/
@[simp] theorem dequeueJob_frame (s : State) :
    (dequeueJob s).settings = s.settings ∧ (dequeueJob s).host = s.host ∧ (dequeueJob s).port = s.port ∧
    (dequeueJob s).regions = s.regions ∧ (dequeueJob s).sources = s.sources ∧ (dequeueJob s).captures = s.captures ∧
    (dequeueJob s).events = s.events ∧ (dequeueJob s).link = s.link ∧ (dequeueJob s).control = s.control ∧
    (dequeueJob s).pending = s.pending := by
  simp [dequeueJob]

/-- The end of an exclusive operation touches the engine and MARK_MISSED alone (R91). -/
@[simp] theorem endExclusive_frame (s : State) :
    (endExclusive s).settings = s.settings ∧ (endExclusive s).host = s.host ∧ (endExclusive s).port = s.port ∧
    (endExclusive s).regions = s.regions ∧ (endExclusive s).sources = s.sources ∧ (endExclusive s).captures = s.captures ∧
    (endExclusive s).link = s.link ∧ (endExclusive s).control = s.control ∧ (endExclusive s).pending = s.pending := by
  unfold endExclusive
  (repeat' split) <;> simp

/-- A reported write touches the mark timer alone (R69, R85). -/
@[simp] theorem reportJournalWrite_frame (c : HostAccess) (s : State) :
    (reportJournalWrite c s).engine = s.engine ∧ (reportJournalWrite c s).settings = s.settings ∧
    (reportJournalWrite c s).host = s.host ∧ (reportJournalWrite c s).port = s.port ∧
    (reportJournalWrite c s).regions = s.regions ∧ (reportJournalWrite c s).captures = s.captures ∧
    (reportJournalWrite c s).events = s.events ∧ (reportJournalWrite c s).link = s.link ∧
    (reportJournalWrite c s).control = s.control ∧ (reportJournalWrite c s).pending = s.pending := by
  unfold reportJournalWrite
  (repeat' split) <;> simp

/-- A cause sets its flag alone (R68). -/
@[simp] theorem setCauseFlag_frame (x : FaultCause) (s : State) :
    (setCauseFlag x s).engine = s.engine ∧ (setCauseFlag x s).settings = s.settings ∧ (setCauseFlag x s).host = s.host ∧
    (setCauseFlag x s).port = s.port ∧ (setCauseFlag x s).regions = s.regions ∧ (setCauseFlag x s).sources = s.sources ∧
    (setCauseFlag x s).captures = s.captures ∧ (setCauseFlag x s).link = s.link ∧ (setCauseFlag x s).control = s.control ∧
    (setCauseFlag x s).pending = s.pending := by
  unfold setCauseFlag
  (repeat' split) <;> simp

/-- The LOCKED_WRITE offer touches what an offer touches (R56). -/
@[simp] theorem offerLocked_frame (c : HostAccess) (x : FaultCause) (s : State) :
    (offerLocked c x s).engine = s.engine ∧ (offerLocked c x s).settings = s.settings ∧ (offerLocked c x s).host = s.host ∧
    (offerLocked c x s).port = s.port ∧ (offerLocked c x s).regions = s.regions ∧ (offerLocked c x s).sources = s.sources ∧
    (offerLocked c x s).link = s.link ∧ (offerLocked c x s).control = s.control ∧
    (offerLocked c x s).pending = s.pending := by
  unfold offerLocked
  (repeat' split) <;> simp

/-- The skipping condition belongs to the host port alone (R51). -/
@[simp] theorem setSkipping_frame (c : HostAccess) (s : State) :
    (setSkipping c s).engine = s.engine ∧ (setSkipping c s).settings = s.settings ∧ (setSkipping c s).port = s.port ∧
    (setSkipping c s).regions = s.regions ∧ (setSkipping c s).sources = s.sources ∧
    (setSkipping c s).captures = s.captures ∧ (setSkipping c s).events = s.events ∧ (setSkipping c s).link = s.link ∧
    (setSkipping c s).control = s.control ∧ (setSkipping c s).pending = s.pending := by
  unfold setSkipping
  (repeat' split) <;> simp

/-- An answer goes out at the host port alone (R185). -/
@[simp] theorem logAnswer_frame (a : HostAnswer) (s : State) :
    (logAnswer a s).engine = s.engine ∧ (logAnswer a s).settings = s.settings ∧ (logAnswer a s).port = s.port ∧
    (logAnswer a s).regions = s.regions ∧ (logAnswer a s).sources = s.sources ∧ (logAnswer a s).captures = s.captures ∧
    (logAnswer a s).events = s.events ∧ (logAnswer a s).link = s.link ∧ (logAnswer a s).control = s.control ∧
    (logAnswer a s).pending = s.pending := by
  simp [logAnswer]

/-- An answered word touches the host port, counting, the quiet timer, flags and captures alone (R69). -/
@[simp] theorem deliver_frame (a : WordResult) (c : HostAccess) (s : State) :
    (deliver a c s).settings = s.settings ∧ (deliver a c s).port = s.port ∧ (deliver a c s).link = s.link ∧
    (deliver a c s).control = s.control ∧ (deliver a c s).pending = s.pending ∧
    (deliver a c s).engine.state = s.engine.state ∧ (deliver a c s).engine.journal = s.engine.journal ∧
    (deliver a c s).engine.geometry = s.engine.geometry ∧ (deliver a c s).engine.anchor = s.engine.anchor ∧
    (deliver a c s).engine.action = s.engine.action ∧ (deliver a c s).engine.exclusive = s.engine.exclusive ∧
    (deliver a c s).engine.rollback = s.engine.rollback ∧ (deliver a c s).engine.steps = s.engine.steps ∧
    (deliver a c s).engine.recovery = s.engine.recovery ∧ (deliver a c s).engine.peek = s.engine.peek := by
  unfold deliver
  (repeat' split) <;> simp

/-- A word that asks or is held touches the host port alone (R50, R53). -/
@[simp] theorem presentWord_frame (c : HostAccess) (s : State) :
    (presentWord c s).engine = s.engine ∧ (presentWord c s).settings = s.settings ∧ (presentWord c s).port = s.port ∧
    (presentWord c s).regions = s.regions ∧ (presentWord c s).sources = s.sources ∧
    (presentWord c s).captures = s.captures ∧ (presentWord c s).events = s.events ∧ (presentWord c s).link = s.link ∧
    (presentWord c s).control = s.control ∧ (presentWord c s).pending = s.pending := by
  unfold presentWord
  (repeat' split) <;> simp

/-- Taking the next word touches the host port alone (R49). -/
@[simp] theorem nextWord_frame (s : State) :
    (nextWord s).engine = s.engine ∧ (nextWord s).settings = s.settings ∧ (nextWord s).port = s.port ∧
    (nextWord s).regions = s.regions ∧ (nextWord s).sources = s.sources ∧ (nextWord s).captures = s.captures ∧
    (nextWord s).events = s.events ∧ (nextWord s).link = s.link ∧ (nextWord s).control = s.control ∧
    (nextWord s).pending = s.pending := by
  unfold nextWord
  (repeat' split) <;> simp

/-- Taking a presented request touches the host port alone (R185). -/
@[simp] theorem takePresented_frame (r : HostRequest) (rest : List HostRequest) (s : State) :
    (takePresented r rest s).engine = s.engine ∧ (takePresented r rest s).settings = s.settings ∧
    (takePresented r rest s).port = s.port ∧ (takePresented r rest s).regions = s.regions ∧
    (takePresented r rest s).sources = s.sources ∧ (takePresented r rest s).captures = s.captures ∧
    (takePresented r rest s).events = s.events ∧ (takePresented r rest s).link = s.link ∧
    (takePresented r rest s).control = s.control ∧ (takePresented r rest s).pending = s.pending := by
  simp [takePresented]

/-- Treating words touches what answering them touches (R49, R50). -/
@[simp] theorem takeWords_frame (n : Nat) (s : State) :
    (takeWords n s).settings = s.settings ∧ (takeWords n s).port = s.port ∧ (takeWords n s).link = s.link ∧
    (takeWords n s).control = s.control ∧ (takeWords n s).pending = s.pending ∧
    (takeWords n s).engine.state = s.engine.state ∧ (takeWords n s).engine.journal = s.engine.journal ∧
    (takeWords n s).engine.geometry = s.engine.geometry ∧ (takeWords n s).engine.anchor = s.engine.anchor ∧
    (takeWords n s).engine.action = s.engine.action ∧ (takeWords n s).engine.exclusive = s.engine.exclusive ∧
    (takeWords n s).engine.rollback = s.engine.rollback ∧ (takeWords n s).engine.steps = s.engine.steps ∧
    (takeWords n s).engine.recovery = s.engine.recovery ∧ (takeWords n s).engine.peek = s.engine.peek := by
  induction n generalizing s with
  | zero => simp [takeWords]
  | succ n ih =>
    simp only [takeWords]
    (repeat' split) <;> simp [ih]

/-- Answering a word touches what answering and taking words touches (R69). -/
@[simp] theorem answerWord_frame (a : WordResult) (s : State) :
    (answerWord a s).settings = s.settings ∧ (answerWord a s).port = s.port ∧ (answerWord a s).link = s.link ∧
    (answerWord a s).control = s.control ∧ (answerWord a s).pending = s.pending ∧
    (answerWord a s).engine.state = s.engine.state ∧ (answerWord a s).engine.journal = s.engine.journal ∧
    (answerWord a s).engine.geometry = s.engine.geometry ∧ (answerWord a s).engine.anchor = s.engine.anchor ∧
    (answerWord a s).engine.action = s.engine.action ∧ (answerWord a s).engine.exclusive = s.engine.exclusive ∧
    (answerWord a s).engine.rollback = s.engine.rollback ∧ (answerWord a s).engine.steps = s.engine.steps ∧
    (answerWord a s).engine.recovery = s.engine.recovery ∧ (answerWord a s).engine.peek = s.engine.peek := by
  unfold answerWord
  (repeat' split) <;> simp

/-- A tenancy that ends with an answer gives the port back besides (R112). -/
@[simp] theorem finishWord_frame (a : WordResult) (s : State) :
    (finishWord a s).settings = s.settings ∧ (finishWord a s).link = s.link ∧ (finishWord a s).control = s.control ∧
    (finishWord a s).pending = s.pending ∧ (finishWord a s).engine.state = s.engine.state ∧
    (finishWord a s).engine.journal = s.engine.journal ∧ (finishWord a s).engine.geometry = s.engine.geometry ∧
    (finishWord a s).engine.anchor = s.engine.anchor ∧ (finishWord a s).engine.action = s.engine.action ∧
    (finishWord a s).engine.exclusive = s.engine.exclusive ∧ (finishWord a s).engine.rollback = s.engine.rollback ∧
    (finishWord a s).engine.steps = s.engine.steps ∧ (finishWord a s).engine.recovery = s.engine.recovery ∧
    (finishWord a s).engine.peek = s.engine.peek := by
  simp [finishWord]

/-- An expiry touches what an answer touches (R66). -/
@[simp] theorem expireIfReached_frame (s : State) :
    (expireIfReached s).settings = s.settings ∧ (expireIfReached s).port = s.port ∧ (expireIfReached s).link = s.link ∧
    (expireIfReached s).control = s.control ∧ (expireIfReached s).pending = s.pending ∧
    (expireIfReached s).engine.state = s.engine.state ∧ (expireIfReached s).engine.journal = s.engine.journal ∧
    (expireIfReached s).engine.geometry = s.engine.geometry ∧ (expireIfReached s).engine.anchor = s.engine.anchor ∧
    (expireIfReached s).engine.action = s.engine.action ∧ (expireIfReached s).engine.exclusive = s.engine.exclusive ∧
    (expireIfReached s).engine.rollback = s.engine.rollback ∧ (expireIfReached s).engine.steps = s.engine.steps ∧
    (expireIfReached s).engine.recovery = s.engine.recovery ∧ (expireIfReached s).engine.peek = s.engine.peek := by
  unfold expireIfReached
  (repeat' split) <;> simp

/-- A hold gives the port back, and may expire at once (R65, R66). -/
@[simp] theorem holdWord_frame (s : State) :
    (holdWord s).settings = s.settings ∧ (holdWord s).link = s.link ∧ (holdWord s).control = s.control ∧
    (holdWord s).pending = s.pending ∧ (holdWord s).engine.state = s.engine.state ∧
    (holdWord s).engine.journal = s.engine.journal ∧ (holdWord s).engine.geometry = s.engine.geometry ∧
    (holdWord s).engine.anchor = s.engine.anchor ∧ (holdWord s).engine.action = s.engine.action ∧
    (holdWord s).engine.exclusive = s.engine.exclusive ∧ (holdWord s).engine.rollback = s.engine.rollback ∧
    (holdWord s).engine.steps = s.engine.steps ∧ (holdWord s).engine.recovery = s.engine.recovery ∧
    (holdWord s).engine.peek = s.engine.peek := by
  unfold holdWord
  (repeat' split) <;> simp

/-- The end of recovery touches what answering a held word touches (R53). -/
@[simp] theorem wakeAfterRecovery_frame (s : State) :
    (wakeAfterRecovery s).settings = s.settings ∧ (wakeAfterRecovery s).port = s.port ∧
    (wakeAfterRecovery s).link = s.link ∧ (wakeAfterRecovery s).control = s.control ∧
    (wakeAfterRecovery s).pending = s.pending ∧ (wakeAfterRecovery s).engine.state = s.engine.state ∧
    (wakeAfterRecovery s).engine.journal = s.engine.journal ∧ (wakeAfterRecovery s).engine.geometry = s.engine.geometry ∧
    (wakeAfterRecovery s).engine.anchor = s.engine.anchor ∧ (wakeAfterRecovery s).engine.action = s.engine.action ∧
    (wakeAfterRecovery s).engine.exclusive = s.engine.exclusive ∧
    (wakeAfterRecovery s).engine.rollback = s.engine.rollback ∧ (wakeAfterRecovery s).engine.steps = s.engine.steps ∧
    (wakeAfterRecovery s).engine.recovery = s.engine.recovery ∧ (wakeAfterRecovery s).engine.peek = s.engine.peek := by
  unfold wakeAfterRecovery
  (repeat' split) <;> simp

/-- The end of recovery touches its progress, RECOVERY_DONE and a held word (R140). -/
@[simp] theorem endRecovery_frame (s : State) :
    (endRecovery s).settings = s.settings ∧ (endRecovery s).port = s.port ∧ (endRecovery s).link = s.link ∧
    (endRecovery s).control = s.control ∧ (endRecovery s).pending = s.pending ∧
    (endRecovery s).engine.state = s.engine.state ∧ (endRecovery s).engine.journal = s.engine.journal ∧
    (endRecovery s).engine.geometry = s.engine.geometry ∧ (endRecovery s).engine.anchor = s.engine.anchor ∧
    (endRecovery s).engine.action = s.engine.action ∧ (endRecovery s).engine.exclusive = s.engine.exclusive ∧
    (endRecovery s).engine.rollback = s.engine.rollback ∧ (endRecovery s).engine.steps = s.engine.steps ∧
    (endRecovery s).engine.peek = s.engine.peek := by
  simp [endRecovery]

end Sys2Proof.Machine
end

