-- ==== Sys2Proof/Laws/Events.lean ====
section
/-!
SUPPORT. Flags: what setting and clearing do to each flag, and that no shared operation clears one or changes an enable (R157, R160).
-/
namespace Sys2Proof.Machine

/-- Every flag set in the first state is set in the second, and the enable set is the same (R160, R161). -/
structure FlagsKept (s t : State) : Prop where
  flags : ∀ f, hasFlag s.events.flags f = true → hasFlag t.events.flags f = true
  enables : t.events.enables = s.events.enables

theorem FlagsKept.refl (s : State) : FlagsKept s s := ⟨fun _ h => h, rfl⟩

theorem FlagsKept.trans {a b c : State} (h : FlagsKept a b) (k : FlagsKept b c) : FlagsKept a c :=
  ⟨fun f hf => k.flags f (h.flags f hf), k.enables.trans h.enables⟩

/-- A change that leaves the event unit as it was keeps every flag. -/
theorem FlagsKept.of_eq {s t : State} (h : t.events = s.events) : FlagsKept s t := ⟨fun f hf => by rw [h]; exact hf, by rw [h]⟩

/-- No two flags share a bit position. -/
theorem Flag.bit_inj (f g : Flag) (h : f.bit = g.bit) : f = g := by
  cases f <;> cases g <;> first | rfl | exact absurd h (by decide)

/-- A set of one flag holds that flag alone. -/
theorem hasFlag_only (f g : Flag) : hasFlag f.only g = decide (f = g) := by
  by_cases h : f = g
  · subst h
    have : f.bit < 25 := by cases f <;> decide
    simp [hasFlag, Flag.only, this]
  · have hb : f.bit ≠ g.bit := fun hb => h (Flag.bit_inj f g hb)
    simp [hasFlag, Flag.only, BitVec.getLsbD_twoPow, h, hb]

/-- Setting a flag sets it and keeps the others as they were (R157). -/
@[simp] theorem setFlag_hasFlag (f g : Flag) (s : State) :
    hasFlag (setFlag f s).events.flags g = (hasFlag s.events.flags g || decide (f = g)) := by
  rw [← hasFlag_only f g]
  simp [setFlag, hasFlag]

/-- Clearing a set clears the flags it names and keeps the others as they were (R158). -/
theorem clearFlags_hasFlag (x : FlagSet) (g : Flag) (s : State) :
    hasFlag (clearFlags x s).events.flags g = (hasFlag s.events.flags g && !hasFlag x g) := by
  have : g.bit < 25 := by cases g <;> decide
  simp [clearFlags, hasFlag, this]

theorem setFlag_keeps (f : Flag) (s : State) : FlagsKept s (setFlag f s) := ⟨fun g h => by simp [h], rfl⟩

theorem offer_keeps (o : Offer) (s : State) : FlagsKept s (offer o s) := by
  refine ⟨fun g h => ?_, rfl⟩
  simp only [hasFlag] at h
  simp [offer, hasFlag, h]

theorem requestMark_keeps (x : Source) (s : State) : FlagsKept s (requestMark x s) := by
  unfold requestMark
  split
  · exact FlagsKept.of_eq (by simp)
  · exact setFlag_keeps _ _
  · exact FlagsKept.refl _

theorem endExclusive_keeps (s : State) : FlagsKept s (endExclusive s) := by
  unfold endExclusive
  (repeat' split)
  · exact FlagsKept.of_eq (by simp)
  · exact FlagsKept.of_eq (by simp)
  · exact (FlagsKept.of_eq (by simp)).trans (setFlag_keeps _ _)

theorem filteredChange_keeps (s : State) : FlagsKept s (filteredChange s) := by
  have h : FlagsKept s (setFlag .lineChange
      (s.withSources { s.sources with level := !s.sources.level, candidate := none })) :=
    (FlagsKept.of_eq (by simp)).trans (setFlag_keeps _ _)
  unfold filteredChange
  split
  · exact h.trans ((offer_keeps _ _).trans (requestMark_keeps _ _))
  · exact h

theorem changeIfDue_keeps (s : State) : FlagsKept s (changeIfDue s) := by
  unfold changeIfDue
  split
  · exact filteredChange_keeps _
  · exact FlagsKept.refl _

theorem expireTimer_keeps (s : State) : FlagsKept s (expireTimer s) := by
  unfold expireTimer
  (repeat' split)
  · exact (requestMark_keeps .timer s).trans (FlagsKept.of_eq (by simp))
  · exact (requestMark_keeps .timer s).trans (FlagsKept.of_eq (by simp))
  · exact FlagsKept.refl _
  · exact FlagsKept.refl _

theorem compareMatch_keeps (i : Fin Config.regionCount) (s : State) : FlagsKept s (compareMatch i s) :=
  FlagsKept.trans (b := setFlag .compareMatch (setEntry i { s.regions.active[i] with hit := true } s))
    ((FlagsKept.of_eq (by simp)).trans (setFlag_keeps _ _)) (offer_keeps _ _)

theorem compareAct_keeps (i : Fin Config.regionCount) (s : State) : FlagsKept s (compareAct i s) := by
  unfold compareAct
  split
  · exact requestMark_keeps _ _
  · exact FlagsKept.refl _

theorem countEntry_keeps (i : Fin Config.regionCount) (s : State) : FlagsKept s (countEntry i s) := by
  unfold countEntry
  split
  · exact FlagsKept.trans
      (b := compareMatch i (setEntry i { s.regions.active[i] with counter := s.regions.active[i].counter + 1 } s))
      (FlagsKept.trans (b := setEntry i { s.regions.active[i] with counter := s.regions.active[i].counter + 1 } s)
        (FlagsKept.of_eq (by simp)) (compareMatch_keeps _ _))
      ((compareAct_keeps i _).trans (FlagsKept.of_eq (t := ringReturn i (compareAct i _)) (by simp)))
  · exact FlagsKept.of_eq (by simp)

theorem countFor_keeps (t : CountTarget) (g : Option Resolution) (s : State) : FlagsKept s (countFor t g s) := by
  unfold countFor
  (repeat' split)
  · exact countEntry_keeps _ _
  · exact FlagsKept.refl _
  · exact FlagsKept.refl _

theorem checkWatermark_keeps (s : State) : FlagsKept s (checkWatermark s) := by
  unfold checkWatermark
  split
  · exact (setFlag_keeps _ _).trans (offer_keeps _ _)
  · exact FlagsKept.refl _

theorem appendMark_keeps (x : SourceSet) (w : Word) (s : State) : FlagsKept s (appendMark x w s) :=
  FlagsKept.trans (b := s.withJournal (s.engine.journal.appendMark s.engine.slots x w)) (FlagsKept.of_eq (by simp))
    (checkWatermark_keeps _)

theorem releaseEpochs_keeps (n : Nat) (s : State) : FlagsKept s (releaseEpochs n s) :=
  FlagsKept.trans (b := s.withJournal (s.engine.journal.releaseOldest s.engine.slots n)) (FlagsKept.of_eq (by simp))
    ((setFlag_keeps .epochReleased _).trans (FlagsKept.of_eq (t := wake (setFlag .epochReleased _)) (by simp)))

theorem anchorFailure_keeps (s : State) : FlagsKept s (anchorFailure s) :=
  FlagsKept.trans (b := (s.withJournal s.engine.journal.emptied).withEngineState .broken) (FlagsKept.of_eq (by simp))
    ((setFlag_keeps .anchorFault _).trans
      (FlagsKept.of_eq (t := wake ((setFlag .anchorFault _).withTimer none)) (by simp)))

theorem setCauseFlag_keeps (x : FaultCause) (s : State) : FlagsKept s (setCauseFlag x s) := by
  unfold setCauseFlag
  split
  · exact setFlag_keeps _ _
  · exact FlagsKept.refl _

/-- A cause's flag is set once the cause has set it (R68). -/
theorem setCauseFlag_hasFlag (x : FaultCause) (f : Flag) (s : State) (h : x.flag = some f) :
    hasFlag (setCauseFlag x s).events.flags f = true := by
  simp [setCauseFlag, h]

theorem offerLocked_keeps (c : HostAccess) (x : FaultCause) (s : State) : FlagsKept s (offerLocked c x s) := by
  unfold offerLocked
  split
  · exact offer_keeps _ _
  · exact FlagsKept.refl _

theorem deliver_keeps (a : WordResult) (c : HostAccess) (s : State) : FlagsKept s (deliver a c s) := by
  cases a with
  | done d =>
    exact FlagsKept.trans (b := logAnswer (.done d) s) (FlagsKept.of_eq (by simp))
      ((countFor_keeps c.countTarget c.grant _).trans
        (FlagsKept.of_eq (t := reportJournalWrite c (countFor c.countTarget c.grant (logAnswer (.done d) s))) (by simp)))
  | fault x =>
    exact FlagsKept.trans (b := setSkipping c (logAnswer (.fault x (faultData c.kind)) s)) (FlagsKept.of_eq (by simp))
      ((setCauseFlag_keeps _ _).trans ((offerLocked_keeps _ _ _).trans (offer_keeps _ _)))

/-- A FAULT answer sets the flag of its cause (R68). -/
theorem deliver_sets_cause (x : FaultCause) (f : Flag) (c : HostAccess) (s : State) (h : x.flag = some f) :
    hasFlag (deliver (.fault x) c s).events.flags f = true :=
  (offer_keeps _ _).flags f ((offerLocked_keeps _ _ _).flags f (setCauseFlag_hasFlag x f _ h))

theorem takeWords_keeps (n : Nat) (s : State) : FlagsKept s (takeWords n s) := by
  induction n generalizing s with
  | zero => exact FlagsKept.refl _
  | succ n ih =>
    simp only [takeWords]
    split
    · split
      · rename_i r rest _
        exact FlagsKept.trans (b := takePresented r rest s) (FlagsKept.of_eq (by simp)) (ih _)
      · exact FlagsKept.refl _
    · split
      · exact FlagsKept.trans (b := s.withCurrent none) (FlagsKept.of_eq (by simp)) (ih _)
      · split
        · rename_i c _ _ _ a _
          exact (deliver_keeps a c s).trans
            (FlagsKept.trans (b := nextWord (deliver a c s)) (FlagsKept.of_eq (by simp)) (ih _))
        · exact FlagsKept.of_eq (by simp)

theorem answerWord_keeps (a : WordResult) (s : State) : FlagsKept s (answerWord a s) := by
  unfold answerWord
  split
  · rename_i c _
    exact (deliver_keeps a c s).trans
      (FlagsKept.trans (b := nextWord (deliver a c s)) (FlagsKept.of_eq (by simp)) (takeWords_keeps _ _))
  · exact FlagsKept.refl _

/-- A word answered FAULT sets the flag of its cause (R68). -/
theorem answerWord_sets_cause (x : FaultCause) (f : Flag) (c : HostAccess) (s : State) (hc : s.host.current = some c)
    (h : x.flag = some f) : hasFlag (answerWord (.fault x) s).events.flags f = true := by
  simp only [answerWord, hc]
  exact (takeWords_keeps _ _).flags f (by simpa using deliver_sets_cause x f c s h)

theorem finishWord_keeps (a : WordResult) (s : State) : FlagsKept s (finishWord a s) :=
  FlagsKept.trans (b := endTenancy s) (FlagsKept.of_eq (by simp)) (answerWord_keeps _ _)

theorem expireIfReached_keeps (s : State) : FlagsKept s (expireIfReached s) := by
  unfold expireIfReached
  (repeat' split)
  · exact answerWord_keeps _ _
  · exact FlagsKept.refl _
  · exact FlagsKept.refl _

theorem holdWord_keeps (s : State) : FlagsKept s (holdWord s) := by
  unfold holdWord
  split
  · exact FlagsKept.trans (b := (endTenancy s).withCurrent _) (FlagsKept.of_eq (by simp)) (expireIfReached_keeps _)
  · exact FlagsKept.of_eq (by simp)

theorem wakeAfterRecovery_keeps (s : State) : FlagsKept s (wakeAfterRecovery s) := by
  unfold wakeAfterRecovery
  (repeat' split)
  · exact FlagsKept.of_eq (by simp)
  · exact answerWord_keeps _ _
  · exact FlagsKept.refl _
  · exact FlagsKept.refl _

theorem endRecovery_keeps (s : State) : FlagsKept s (endRecovery s) :=
  FlagsKept.trans (b := s.withRecovery none) (FlagsKept.of_eq (by simp))
    ((setFlag_keeps .recoveryDone _).trans (wakeAfterRecovery_keeps _))

end Sys2Proof.Machine
end

