-- ==== Sys2Proof/Laws/HostPort.lean ====
section
/-!
SUPPORT. The host port: the answers only grow, an answered word's answer stands first among them, and treating words leaves
the port settled: a word that asks or is held, or none with nothing left presented (R48, R49, R185).
-/
namespace Sys2Proof.Machine

/-- Delivering an answer adds it to those the bus has carried, and leaves the rest of the host port as it was but for the
skipping condition of the access in progress (R51, R185). -/
theorem deliver_host (a : WordResult) (c : HostAccess) (s : State) (h : s.host.current = some c) :
    ∃ k, (deliver a c s).host =
      ⟨some { c with skipping := k }, s.host.answers ++ [a.answer c.kind], s.host.presented⟩ := by
  cases a with
  | done d => exact ⟨c.skipping, by simp [deliver, logAnswer, h]⟩
  | fault x =>
    simp only [deliver, offer_frame, offerLocked_frame, setCauseFlag_frame, setSkipping]
    split
    · exact ⟨true, by simp [logAnswer]⟩
    · exact ⟨c.skipping, by simp [logAnswer, h]⟩

/-- Once its answer has been delivered, the word after it is current (R49). -/
theorem nextWord_deliver_host (a : WordResult) (c : HostAccess) (s : State) (h : s.host.current = some c) :
    ∃ k, (nextWord (deliver a c s)).host =
      ⟨some { c with position := c.position + 1, skipping := k, phase := .entry, hold := none, grant := none },
        s.host.answers ++ [a.answer c.kind], s.host.presented⟩ := by
  obtain ⟨k, hk⟩ := deliver_host a c s h
  exact ⟨k, by simp [nextWord, hk]⟩

@[simp] theorem presentWord_answers (c : HostAccess) (s : State) : (presentWord c s).host.answers = s.host.answers := by
  unfold presentWord
  split <;> simp

/-- Treating words only adds answers. -/
theorem takeWords_answers (n : Nat) (s : State) : ∃ rest, (takeWords n s).host.answers = s.host.answers ++ rest := by
  induction n generalizing s with
  | zero => exact ⟨[], by simp [takeWords]⟩
  | succ n ih =>
    simp only [takeWords]
    split
    · split
      · rename_i r rest _
        simpa [takePresented] using ih (takePresented r rest s)
      · exact ⟨[], by simp⟩
    · split
      · simpa using ih (s.withCurrent none)
      · split
        · rename_i c hc _ _ a _
          obtain ⟨rest, hr⟩ := ih (nextWord (deliver a c s))
          obtain ⟨k, hk⟩ := nextWord_deliver_host a c s hc
          exact ⟨a.answer c.kind :: rest, by rw [hr, hk]; simp⟩
        · exact ⟨[], by simp⟩

/-- An answered word's answer comes first, before those of the words taken after it. -/
theorem answerWord_answers (a : WordResult) (c : HostAccess) (s : State) (h : s.host.current = some c) :
    ∃ rest, (answerWord a s).host.answers = s.host.answers ++ a.answer c.kind :: rest := by
  simp only [answerWord, h]
  obtain ⟨rest, hr⟩ := takeWords_answers s.host.wordsLeft (nextWord (deliver a c s))
  obtain ⟨k, hk⟩ := nextWord_deliver_host a c s h
  exact ⟨rest, by rw [hr, hk]; simp⟩

/-- A word without a region that is answered, and any word answered FAULT, leaves the engine, the regions and the mark sources
as they were (R35, R69). -/
theorem deliver_quiet (a : WordResult) (c : HostAccess) (s : State) (h : c.grant = none ∨ ∃ x, a = .fault x) :
    (deliver a c s).engine = s.engine ∧ (deliver a c s).regions = s.regions ∧ (deliver a c s).sources = s.sources := by
  cases a with
  | done d =>
    have hg : c.grant = none := h.elim id fun ⟨x, hx⟩ => nomatch hx
    simp [deliver, countFor, reportJournalWrite, hg]
  | fault x => simp [deliver]

/-- Treating words that have no grant yet leaves the engine, the regions and the mark sources as they were: the entry checks
come before any grant (R50). -/
theorem takeWords_quiet (n : Nat) (s : State) (h : ∀ c, s.host.current = some c → c.grant = none) :
    (takeWords n s).engine = s.engine ∧ (takeWords n s).regions = s.regions ∧ (takeWords n s).sources = s.sources := by
  induction n generalizing s with
  | zero => simp [takeWords]
  | succ n ih =>
    simp only [takeWords]
    split
    · split
      · rename_i r rest _
        simpa using ih (takePresented r rest s) fun c hc => by
          simp only [takePresented, State.withHost_host, Option.some.injEq] at hc
          subst hc
          rfl
      · simp
    · rename_i c hc
      split
      · simpa using ih (s.withCurrent none) fun c hc => by simp at hc
      · split
        · rename_i a _
          have hq := deliver_quiet a c s (.inl (h c hc))
          obtain ⟨k, hk⟩ := nextWord_deliver_host a c s hc
          have hn := ih (nextWord (deliver a c s)) fun e he => by
            rw [hk] at he
            simp only [Option.some.injEq] at he
            subst he
            rfl
          simpa [hq] using hn
        · simp

/-- A word answered FAULT leaves the engine, the regions and the mark sources as they were, and so do the words taken after
it (R35, R69). -/
theorem answerWord_fault_quiet (x : FaultCause) (s : State) :
    (answerWord (.fault x) s).engine = s.engine ∧ (answerWord (.fault x) s).regions = s.regions ∧
    (answerWord (.fault x) s).sources = s.sources := by
  unfold answerWord
  split
  · rename_i c hc
    have hq := deliver_quiet (.fault x) c s (.inr ⟨x, rfl⟩)
    obtain ⟨k, hk⟩ := nextWord_deliver_host (.fault x) c s hc
    have hn := takeWords_quiet s.host.wordsLeft (nextWord (deliver (.fault x) c s)) fun e he => by
      rw [hk] at he
      simp only [Option.some.injEq] at he
      subst he
      rfl
    simpa [hq] using hn
  · simp

/-- What stands at the host port between steps when no word is GRANTED: a word of its access that asks or is held, or no
access and nothing left presented. -/
def Settled (h : HostPort) : Prop :=
  (∀ c, h.current = some c → (c.phase = .waiting ∨ c.phase = .held) ∧ c.position < c.words.length) ∧
  (h.current = none → h.presented = [])

/-- The steps left to `takeWords`: one for each word, and two for each access to be taken and to end. -/
def HostPort.left (h : HostPort) : Nat :=
  (match h.current with
   | some c => c.words.length - c.position + 1
   | none => 0) + (h.presented.map fun r => r.words.length + 2).sum

/-- What taking a word that is not answered at once leaves: WAITING, or HELD in recovery (R50, R53). -/
theorem presentWord_settled (c : HostAccess) (s : State) (hp : c.position < c.words.length) :
    Settled (presentWord c s).host := by
  unfold presentWord
  split <;> refine ⟨fun d hd => ?_, by simp⟩ <;> simp only [State.withCurrent_host, Option.some.injEq] at hd <;>
    subst hd <;> simp [hp]

/-- Treating words leaves the host port settled, when it may treat at least those left. -/
theorem takeWords_settled (n : Nat) (s : State) (h : s.host.left ≤ n) : Settled (takeWords n s).host := by
  induction n generalizing s with
  | zero =>
    unfold HostPort.left at h
    refine ⟨fun c hc => ?_, fun _ => ?_⟩
    · simp only [takeWords] at hc
      rw [hc] at h
      simp at h
    · cases hp : s.host.presented with
      | nil => simp [takeWords, hp]
      | cons r rest => simp [hp] at h
  | succ n ih =>
    rw [takeWords]
    unfold HostPort.left at h
    split
    · rename_i hn
      split
      · rename_i r rest hp
        apply ih
        simp only [hn, hp, List.map_cons, List.sum_cons] at h
        simp only [HostPort.left, takePresented, State.withHost_host, HostRequest.access]
        omega
      · rename_i hp
        exact ⟨fun c hc => by simp [hn] at hc, fun _ => hp⟩
    · rename_i c hc
      simp only [hc] at h
      split
      · apply ih
        simp only [HostPort.left, State.withCurrent_host]
        omega
      · rename_i hp
        split
        · rename_i a _
          apply ih
          obtain ⟨k, hk⟩ := nextWord_deliver_host a c s hc
          simp only [HostPort.left, hk]
          omega
        · exact presentWord_settled c s (by omega)

/-- Answering the current word leaves the host port settled. -/
theorem answerWord_settled (a : WordResult) (c : HostAccess) (s : State) (h : s.host.current = some c) :
    Settled (answerWord a s).host := by
  simp only [answerWord, h]
  apply takeWords_settled
  obtain ⟨k, hk⟩ := nextWord_deliver_host a c s h
  simp only [HostPort.left, HostPort.wordsLeft, hk, h, Option.map_some, Option.getD_some]
  omega

end Sys2Proof.Machine
end

