-- ==== Sys2Proof/Laws/Faults.lean ====
section
/-!
SUPPORT. What the FAULT answers of host words leave outside the host port: the flags they set and the offers they make, word by
word (R51, R69, R147).
-/
namespace Sys2Proof.Machine

/-- Offers and flags do not read the host port. -/
theorem faulted_withHost (c : HostAccess) (x : FaultCause) (h : HostPort) (s : State) :
    State.faulted c x (s.withHost h) = (s.faulted c x).withHost h := by
  cases x <;> rfl

theorem foldl_faulted_withHost (cs : List HostAccess) (x : FaultCause) (h : HostPort) (s : State) :
    cs.foldl (fun u d => State.faulted d x u) (s.withHost h) = (cs.foldl (fun u d => State.faulted d x u) s).withHost h := by
  induction cs generalizing s with
  | nil => rfl
  | cons c cs ih => simp only [List.foldl_cons, faulted_withHost, ih]

/-- What a FAULT answer leaves depends on the word alone, not on its phase, hold or skipping condition. -/
theorem faulted_congr (c d : HostAccess) (x : FaultCause) (s : State) (hk : d.kind = c.kind) (ha : d.address = c.address)
    (hw : d.words = c.words) (hp : d.position = c.position) (hg : d.grant = c.grant) : s.faulted d x = s.faulted c x := by
  simp only [State.faulted, HostAccess.wordAddress, HostAccess.word, hk, ha, hw, hp, hg]

/-- A FAULT answer touches the captures and the flags alone, besides the host port. -/
@[simp] theorem faulted_frame (c : HostAccess) (x : FaultCause) (s : State) :
    (s.faulted c x).engine = s.engine ∧ (s.faulted c x).settings = s.settings ∧ (s.faulted c x).host = s.host ∧
    (s.faulted c x).port = s.port ∧ (s.faulted c x).regions = s.regions ∧ (s.faulted c x).sources = s.sources ∧
    (s.faulted c x).link = s.link ∧ (s.faulted c x).control = s.control ∧ (s.faulted c x).pending = s.pending := by
  cases x <;> simp [State.faulted, FaultCause.flag, State.flagged]

/-- Besides the host port, a FAULT answer's delivery does what `State.faulted` says. -/
theorem deliver_fault (x : FaultCause) (c : HostAccess) (s : State) :
    deliver (.fault x) c s = (s.faulted c x).withHost (deliver (.fault x) c s).host := by
  obtain ⟨kind, _, _, _, _, _, _, grant⟩ := c
  cases x <;> cases kind <;> cases grant <;> rfl

/-- The answer FAULT on the bus. -/
theorem fault_answer (k : AccessKind) (x : FaultCause) : WordResult.answer k (.fault x) = faultTo k x := by cases k <;> rfl

/-- The word after a word answered FAULT (R49, R51). -/
def HostAccess.afterFault (c : HostAccess) : HostAccess :=
  { c with position := c.position + 1, skipping := c.skipping || c.kind == .write, phase := .entry, hold := none, grant := none }

/-- Once a word has been answered FAULT, the word after it is current, with the skipping condition set for a write (R49, R51). -/
theorem nextWord_fault (x : FaultCause) (c : HostAccess) (s : State) (h : s.host.current = some c) :
    nextWord (deliver (.fault x) c s) = (s.faulted c x).withHost
      ⟨some c.afterFault, s.host.answers ++ [faultTo c.kind x], s.host.presented⟩ := by
  have hd : (deliver (.fault x) c s).host =
      ⟨some { c with skipping := c.skipping || c.kind == .write }, s.host.answers ++ [faultTo c.kind x], s.host.presented⟩ := by
    obtain ⟨kind, _, _, _, skipping, _, _, _⟩ := c
    cases kind <;> cases skipping <;> simp [deliver, setSkipping, logAnswer, h, fault_answer]
  rw [deliver_fault, hd]
  rfl

/-- The word after the last of an access with no request presented leaves the port IDLE (R49). -/
theorem takeWords_ends (n : Nat) (c : HostAccess) (s : State) (h : s.host.current = some c)
    (hl : c.words.length ≤ c.position) (hp : s.host.presented = []) : takeWords (n + 2) s = s.withCurrent none := by
  have hw : takeWords (n + 1) (s.withCurrent none) = s.withCurrent none := by simp [takeWords, hp]
  simp only [takeWords] at hw ⊢
  simp only [h, hl, if_true, hw]

/-- A word that meets no answer at its entry checks waits or is held (R50, R53). -/
theorem takeWords_presents (n : Nat) (c : HostAccess) (s : State) (h : s.host.current = some c)
    (hl : ¬ c.words.length ≤ c.position) (he : entryAnswer c s = none) : takeWords (n + 1) s = presentWord c s := by
  simp only [takeWords, h, if_neg hl, he]

/-- When each of the m words left of an access, the current one first, meets this FAULT at its entry check, all are answered
so and the port is IDLE. P is what the words left have in common. -/
theorem takeWords_faults (x : FaultCause) (P : HostAccess → Prop) (m n : Nat) (c : HostAccess) (s : State)
    (hc : s.host.current = some c) (hp : s.host.presented = []) (hg : c.grant = none) (hm : c.words.length - c.position = m)
    (hn : m + 1 ≤ n) (h0 : P c) (hnext : ∀ d, P d → P d.afterFault)
    (he : ∀ d u, P d → u.engine = s.engine → u.control = s.control → d.address = c.address → c.position ≤ d.position →
      d.words = c.words → d.position < c.words.length → entryAnswer d u = some (.fault x)) :
    takeWords n s =
      ((List.range m).foldl (fun u k => u.faulted { c with position := c.position + k, grant := none } x) s).withHost
        ⟨none, s.host.answers ++ List.replicate m (faultTo c.kind x), []⟩ := by
  induction m generalizing n c s with
  | zero =>
    obtain ⟨n, rfl⟩ : ∃ k, n = k + 1 := ⟨n - 1, by omega⟩
    have hl : c.words.length ≤ c.position := by omega
    have hw : takeWords n (s.withCurrent none) = s.withCurrent none := by cases n <;> simp [takeWords, hp]
    simp only [takeWords, hc, hl, if_true, hw]
    simp [State.withCurrent, State.withHost, hp]
  | succ m ih =>
    obtain ⟨n, rfl⟩ : ∃ k, n = k + 1 := ⟨n - 1, by omega⟩
    have hl : ¬ c.words.length ≤ c.position := by omega
    have ha := he c s h0 rfl rfl rfl (Nat.le_refl _) rfl (by omega)
    have hs := ih n c.afterFault ((s.faulted c x).withHost
      ⟨some c.afterFault, s.host.answers ++ [faultTo c.kind x], s.host.presented⟩) rfl hp rfl
      (by simp only [HostAccess.afterFault]; omega) (by omega) (hnext c h0)
      (fun d u h1 h2 h3 h4 h5 h6 h7 => he d u h1 (by simpa using h2) (by simpa using h3) h4
        (by simp only [HostAccess.afterFault] at h5; omega) h6 h7)
    simp only [takeWords, hc, hl, if_false, ha, nextWord_fault x c s hc]
    refine hs.trans ?_
    have hf : (fun (u : State) k => u.faulted { c.afterFault with position := c.afterFault.position + k, grant := none } x) =
        fun u k => u.faulted { c with position := c.position + (k + 1), grant := none } x := by
      funext u k
      exact faulted_congr _ _ x u rfl rfl rfl (by simp only [HostAccess.afterFault]; omega) rfl
    have hh : ∀ (l : List Nat) (h : HostPort) (u : State),
        l.foldl (fun u k => u.faulted { c with position := c.position + (k + 1), grant := none } x) (u.withHost h) =
          (l.foldl (fun u k => u.faulted { c with position := c.position + (k + 1), grant := none } x) u).withHost h := by
      intro l h u
      induction l generalizing u with
      | nil => rfl
      | cons k l ihl => simp only [List.foldl_cons, faulted_withHost, ihl]
    rw [hf, hh, List.range_succ_eq_map, List.foldl_cons, List.foldl_map,
      faulted_congr c { c with position := c.position + 0, grant := none } x s rfl rfl rfl rfl hg.symm]
    simp [State.withHost, HostAccess.afterFault, List.replicate_succ]

/-- A word answered FAULT leaves what `State.faultAnswered` says (R49 to R51, R69). -/
theorem answerWord_faultAnswered (x : FaultCause) (c : HostAccess) (s : State) (h : s.host.current = some c) :
    s.faultAnswered c x (answerWord (.fault x) s) := by
  intro hp
  have hf : ∀ (l : List Nat) (h : HostPort) (u : State) (g : Nat → HostAccess) (y : FaultCause),
      l.foldl (fun u k => u.faulted (g k) y) (u.withHost h) = (l.foldl (fun u k => u.faulted (g k) y) u).withHost h := by
    intro l h u g y
    induction l generalizing u with
    | nil => rfl
    | cons k l ihl => simp only [List.foldl_cons, faulted_withHost, ihl]
  have hall : ∀ (y : FaultCause) (P : HostAccess → Prop), P c.afterFault → (∀ d, P d → P d.afterFault) →
      (∀ d u, P d → u.engine = s.engine → u.control = s.control → d.address = c.address → c.position + 1 ≤ d.position →
        entryAnswer d u = some (.fault y)) →
      takeWords s.host.wordsLeft ((s.faulted c x).withHost
          ⟨some c.afterFault, s.host.answers ++ [faultTo c.kind x], s.host.presented⟩) =
        (s.faultedThrough c x y).withHost ⟨none, s.host.answers ++ faultTo c.kind x ::
          List.replicate (c.words.length - c.position - 1) (faultTo c.kind y), []⟩ := by
    intro y P h0 hn he
    rw [takeWords_faults y P (c.words.length - c.position - 1) s.host.wordsLeft
      c.afterFault ((s.faulted c x).withHost ⟨some c.afterFault, s.host.answers ++ [faultTo c.kind x], s.host.presented⟩)
      rfl hp rfl (by simp only [HostAccess.afterFault]; omega)
      (by simp only [HostPort.wordsLeft, h, Option.map_some, Option.getD_some]; omega) h0 hn
      (fun d u h1 h2 h3 h4 h5 _ _ => he d u h1 (h2.trans (faulted_frame c x s).1)
        (h3.trans (faulted_frame c x s).2.2.2.2.2.2.2.1) h4 h5)]
    have hc : (fun (u : State) k => u.faulted { c.afterFault with position := c.afterFault.position + k, grant := none } y) =
        fun u k => u.faulted { c with position := c.position + 1 + k, grant := none } y := by
      funext u k
      exact faulted_congr _ _ y u rfl rfl rfl rfl rfl
    rw [hc, hf]
    simp [State.faultedThrough, HostAccess.wordsAfter, List.foldl_map, State.withHost, HostAccess.afterFault]
  simp only [answerWord, h, nextWord_fault x c s h, HostAccess.restFails]
  by_cases hw : c.kind = .write ∨ c.skipping = true
  · rw [if_pos hw, hall .skipped (fun d => d.skipping = true) (by rcases hw with hw | hw <;> simp [HostAccess.afterFault, hw])
      (fun d hd => by simp [HostAccess.afterFault, hd]) (fun d u hd _ _ _ _ => by simp [entryAnswer, hd])]
    exact ⟨rfl, rfl, rfl⟩
  · have hr : c.kind = .read := by
      cases hk : c.kind
      · rfl
      · exact absurd (.inl hk) hw
    have hs : c.skipping = false := by simpa [hr] using hw
    have hq : (c.afterFault.skipping = false ∧ c.afterFault.kind = .read) := by simp [HostAccess.afterFault, hs, hr]
    have hn : ∀ d : HostAccess, (d.skipping = false ∧ d.kind = .read) →
        (d.afterFault.skipping = false ∧ d.afterFault.kind = .read) := by
      rintro d ⟨h1, h2⟩
      simp [HostAccess.afterFault, h1, h2]
    rw [if_neg hw]
    by_cases hh : s.control.halted = true ∨ s.engine.state = .halted
    · rw [if_pos hh, hall .powerFail _ hq hn (fun d u hd he hc _ _ => by
        simp only [entryAnswer, hd.1, State.haltedForHost, he, hc]
        rcases hh with hh | hh <;> simp [hh])]
      exact ⟨rfl, rfl, rfl⟩
    · have hnot : ∀ u : State, u.engine = s.engine → u.control = s.control → u.haltedForHost = false := by
        intro u he hc
        simpa [State.haltedForHost, he, hc] using hh
      have hend : ∀ u : State, u.engine = s.engine → u.control = s.control → u.dataSpaceEnd = s.dataSpaceEnd := by
        intro u he hc
        simp only [State.dataSpaceEnd, State.memorySize, State.memoryCode, he, hc]
      rw [if_neg hh]
      by_cases hd : s.dataSpaceEnd ≤ c.wordAddress + 4
      · rw [if_pos hd, hall .outOfSpace _ hq hn (fun d u hd' he hc ha hl => by
          have : ¬ d.wordAddress < s.dataSpaceEnd := by
            simp only [HostAccess.wordAddress, ha] at hd ⊢
            omega
          simp [entryAnswer, hd'.1, hnot u he hc, State.inDataSpace, hend u he hc, this])]
        exact ⟨rfl, rfl, rfl⟩
      · rw [if_neg hd]
        obtain ⟨n, hl⟩ : ∃ n, s.host.wordsLeft = n + 2 := ⟨s.host.wordsLeft - 2, by simp only [HostPort.wordsLeft]; omega⟩
        have hE := (faulted_frame c x s).1
        have hC := (faulted_frame c x s).2.2.2.2.2.2.2.1
        rw [hl]
        by_cases hlast : c.words.length ≤ c.position + 1
        · rw [takeWords_ends n c.afterFault ((s.faulted c x).withHost
            ⟨some c.afterFault, s.host.answers ++ [faultTo c.kind x], s.host.presented⟩) rfl hlast hp]
          rw [if_neg (Nat.not_lt.2 hlast)]
          exact ⟨by simp [State.withCurrent, State.withHost, hp], rfl, rfl⟩
        · have hnone : ∀ g : HostPort, entryAnswer c.afterFault ((s.faulted c x).withHost g) = none := by
            intro g
            have ha : c.afterFault.wordAddress < s.dataSpaceEnd := by
              simp only [HostAccess.wordAddress, HostAccess.afterFault] at hd ⊢
              omega
            have h1 := hnot ((s.faulted c x).withHost g) hE hC
            have h2 := hend ((s.faulted c x).withHost g) hE hC
            simp [entryAnswer, hq, State.inDataSpace, h1, h2, ha]
          rw [takeWords_presents (n + 1) c.afterFault ((s.faulted c x).withHost
            ⟨some c.afterFault, s.host.answers ++ [faultTo c.kind x], s.host.presented⟩) rfl hlast (hnone _)]
          rw [if_pos (Nat.lt_of_not_le hlast)]
          simp only [presentWord, State.withHost, hE, HostAccess.following]
          split <;> rename_i hi <;>
            exact ⟨by simp [State.withCurrent, State.withHost, hp, HostAccess.afterFault, hs, hr], rfl, rfl⟩

/-- What an offer reads and leaves is alike in two states. -/
structure AlikeForOffers (s u : State) : Prop where
  engine : u.engine = s.engine
  sources : u.sources = s.sources
  captures : u.captures = s.captures
  events : u.events = s.events

/-- A FAULT answer keeps states alike, and words alike in kind, address, words, position and grant make it alike. -/
theorem AlikeForOffers.faulted {s u : State} (h : AlikeForOffers s u) (c d : HostAccess) (x : FaultCause) (hk : d.kind = c.kind)
    (ha : d.address = c.address) (hw : d.words = c.words) (hp : d.position = c.position) (hg : d.grant = c.grant) :
    AlikeForOffers (s.faulted c x) (u.faulted d x) := by
  rw [faulted_congr c d x u hk ha hw hp hg]
  obtain ⟨e, s2, s3, s4, s5, s6, p, v, s9, s10, s11⟩ := s
  obtain ⟨_, u2, u3, u4, u5, _, _, _, u9, u10, u11⟩ := u
  obtain ⟨rfl, rfl, rfl, rfl⟩ := h
  cases x <;> exact ⟨rfl, rfl, rfl, rfl⟩

/-- The answers of the words left in an access keep states alike. -/
theorem AlikeForOffers.faultedThrough {s u : State} (h : AlikeForOffers s u) (c d : HostAccess) (x y : FaultCause)
    (hk : d.kind = c.kind) (ha : d.address = c.address) (hw : d.words = c.words) (hp : d.position = c.position)
    (hg : d.grant = c.grant) : AlikeForOffers (s.faultedThrough c x y) (u.faultedThrough d x y) := by
  simp only [State.faultedThrough, HostAccess.wordsAfter, List.foldl_map, hw, hp]
  have hf := h.faulted c d x hk ha hw hp hg
  generalize s.faulted c x = s at hf
  generalize u.faulted d x = u at hf
  induction List.range (c.words.length - c.position - 1) generalizing s u with
  | nil => exact hf
  | cons k l ih =>
    apply ih
    exact hf.faulted _ _ y hk ha rfl rfl rfl

/-- States alike for offers, with the same answers, requests presented, part halted and data space, and words alike, meet
`State.faultAnswered` together. -/
theorem AlikeForOffers.faultAnswered {s u t : State} (h : AlikeForOffers s u) (c d : HostAccess) (x : FaultCause)
    (hk : d.kind = c.kind) (ha : d.address = c.address) (hw : d.words = c.words) (hp : d.position = c.position)
    (hg : d.grant = c.grant) (hs : d.skipping = c.skipping) (hr : u.host.presented = s.host.presented)
    (hb : u.host.answers = s.host.answers) (hc : u.control = s.control) (ht : u.faultAnswered d x t) :
    s.faultAnswered c x t := by
  intro h1
  have hx := ht (hr.trans h1)
  have hd : u.dataSpaceEnd = s.dataSpaceEnd := by
    simp only [State.dataSpaceEnd, State.memorySize, State.memoryCode, hc, h.engine]
  have hf : d.restFails u = c.restFails s := by
    simp only [HostAccess.restFails, hk, hs, hc, h.engine, hd, HostAccess.wordAddress, ha, hp]
    congr
  have hn : d.following u = c.following s := by
    simp only [HostAccess.following, h.engine, hk, ha, hw, hp, hs]
  simp only [hf, hn, hk, hp, hw, hb] at hx
  revert hx
  cases c.restFails s with
  | some y =>
    have hu := h.faultedThrough c d x y hk ha hw hp hg
    exact fun hx => ⟨hx.1, hx.2.1.trans hu.captures, hx.2.2.trans hu.events⟩
  | none =>
    have hu := h.faulted c d x hk ha hw hp hg
    exact fun hx => ⟨hx.1, hx.2.1.trans hu.captures, hx.2.2.trans hu.events⟩

end Sys2Proof.Machine
end

