-- ==== Sys2Proof/Laws/Frames.lean ====
section
/-!
SUPPORT. The link's frames: a frame received whole ends in TURNAROUND, and what `serve` does with a command whose frame is
being received.
-/
namespace Sys2Proof.Machine

/-- Receiving the arguments still to come ends in TURNAROUND (R167). -/
theorem receive_arguments (args : List Byte) :
    ∀ n, 0 < n → args.length = n → FramePhase.receive (.arguments n) args = .turnaround := by
  induction args with
  | nil => intro n h1 h2; simp at h2; omega
  | cons b rest ih =>
    intro n h1 h2
    simp only [List.length_cons] at h2
    simp only [FramePhase.receive, List.foldl_cons, FramePhase.afterByte]
    by_cases h : n ≤ 1
    · have hr : rest = [] := List.eq_nil_of_length_eq_zero (by omega)
      simp [h, hr]
    · rw [if_neg h]
      exact ih (n - 1) (by omega) (by omega)

/-- A frame of this code and length received with as many argument bytes ends in TURNAROUND (R167, R168). -/
theorem receive_frame (code length : Byte) (args : List Byte) (h : args.length = length.toNat) :
    FramePhase.receive .code (code :: length :: args) = .turnaround := by
  by_cases hz : length = 0
  · subst hz
    have hr : args = [] := List.eq_nil_of_length_eq_zero (by simpa using h)
    subst hr
    rfl
  · have hp : 0 < length.toNat :=
      Nat.pos_of_ne_zero fun h0 => hz (BitVec.eq_of_toNat_eq (by simpa using h0))
    have he : FramePhase.receive .code (code :: length :: args) = FramePhase.receive (.arguments length.toNat) args := by
      simp only [FramePhase.receive, List.foldl_cons, FramePhase.afterByte]
      rw [if_neg hz]
    rw [he]
    exact receive_arguments args _ hp h

/-- A management command carries at most 22 argument bytes (Table 11-3). -/
theorem commandFrame_length (c : Instr) (code : Byte) (args : List Byte) (h : commandFrame c = some (code, args)) :
    args.length ≤ 22 := by
  cases c <;> first
    | exact (Prod.mk.inj (Option.some.inj h)).2 ▸ (by simp [bytes32, bytes16, bytes24, tableWriteBytes])
    | exact nomatch h

/-- A command's own frame received whole ends in TURNAROUND (R167). -/
theorem receive_command (c : Instr) (code : Byte) (args : List Byte) (h : commandFrame c = some (code, args)) :
    FramePhase.receive .code (frameBytes c) = .turnaround := by
  have hl := commandFrame_length c code args h
  simp only [frameBytes, h]
  exact receive_frame _ _ _ (by simp only [byteOf, BitVec.toNat_ofNat]; omega)

/-- What taking a management command does: its judgement, and its answer in the link (R168, R170). -/
theorem serve_taken (c : Instr) (code : Byte) (args : List Byte) (hf : commandFrame c = some (code, args))
    (judge : State → Response × State) (s : State) (hr : s.control.resetHeld = false) (hp : s.link.phase = .code) :
    serve c judge s = .next ((judge s).2.withLink ⟨.turnaround, s.link.ignoring, some (judge s).1⟩) := by
  simp only [serve, State.receiving, hr, hp, receive_command c code args hf]
  rfl

end Sys2Proof.Machine
end

