-- ==== Sys2Proof/Laws/Time.lean ====
section
/-!
SUPPORT. The passing of time: what each part of it leaves unchanged.
-/
namespace Sys2Proof.Machine

/-- What falls due touches what an expired hold, a filtered change and a timer's expiry touch. -/
@[simp] theorem takeDue_frame (s : State) :
    (takeDue s).settings = s.settings ∧ (takeDue s).port = s.port ∧ (takeDue s).link = s.link ∧
    (takeDue s).control = s.control ∧ (takeDue s).pending = s.pending ∧ (takeDue s).engine.state = s.engine.state ∧
    (takeDue s).engine.journal = s.engine.journal ∧ (takeDue s).engine.geometry = s.engine.geometry ∧
    (takeDue s).engine.anchor = s.engine.anchor ∧ (takeDue s).engine.action = s.engine.action ∧
    (takeDue s).engine.exclusive = s.engine.exclusive ∧ (takeDue s).engine.rollback = s.engine.rollback ∧
    (takeDue s).engine.steps = s.engine.steps ∧ (takeDue s).engine.recovery = s.engine.recovery ∧
    (takeDue s).engine.peek = s.engine.peek := by
  simp [takeDue]

/-- Microseconds run the hold timer and the candidate alone (R66, R81). -/
@[simp] theorem passMicros_frame (n : Nat) (s : State) :
    (passMicros n s).engine = s.engine ∧ (passMicros n s).settings = s.settings ∧ (passMicros n s).port = s.port ∧
    (passMicros n s).regions = s.regions ∧ (passMicros n s).captures = s.captures ∧ (passMicros n s).events = s.events ∧
    (passMicros n s).link = s.link ∧ (passMicros n s).control = s.control ∧ (passMicros n s).pending = s.pending := by
  unfold passMicros tickCandidate tickHold
  (repeat' split) <;> simp

/-- A millisecond runs the time base and the mark timer alone (R73, R83). -/
@[simp] theorem passMillisecond_frame (s : State) :
    (passMillisecond s).engine = s.engine ∧ (passMillisecond s).settings = s.settings ∧
    (passMillisecond s).host = s.host ∧ (passMillisecond s).port = s.port ∧ (passMillisecond s).regions = s.regions ∧
    (passMillisecond s).captures = s.captures ∧ (passMillisecond s).events = s.events ∧
    (passMillisecond s).link = s.link ∧ (passMillisecond s).control = s.control ∧
    (passMillisecond s).pending = s.pending := by
  simp [passMillisecond]

/-- The count of microseconds touches the mark sources alone. -/
@[simp] theorem countMicro_frame (s : State) :
    (countMicro s).engine = s.engine ∧ (countMicro s).settings = s.settings ∧ (countMicro s).host = s.host ∧
    (countMicro s).port = s.port ∧ (countMicro s).regions = s.regions ∧ (countMicro s).captures = s.captures ∧
    (countMicro s).events = s.events ∧ (countMicro s).link = s.link ∧ (countMicro s).control = s.control ∧
    (countMicro s).pending = s.pending := by
  unfold countMicro
  split <;> simp

end Sys2Proof.Machine
end

