-- ==== Sys2Proof/Tests/Slice0.lean ====
section
/-!
SUPPORT. Tests. Expected results come from spec/: its rules, its Table 1-4 worked sequence and its examples, named at each
test. Each `witness_` theorem gives a state and operands that meet a statement's hypotheses, clause by clause.
-/
namespace Sys2Proof.Tests
open Sys2Proof.Machine

/-! ## States to test on -/

/-- A formatted part of 1 MiB with S = 256, anchor A current with generation 1, in this engine state with this journal. -/
def engineIn (x : EngineState) (j : Journal) : State :=
  { State.reset with
    engine := { coldEngine with state := x, journal := j, geometry := some 0, anchor := some (.a, 1), recovery := none } }

/-- The journal after step 0 of Table 1-4. -/
def j0 : Journal := ⟨0, 0, 0, 1, 0, 0, [], [], false⟩

/-- The journal after step 4 of Table 1-4. -/
def j4 : Journal := ⟨0, 5, 5, 6, 5, 2, [⟨0, 1, 1, 2, 0⟩, ⟨4, 5, 2, 1, 0⟩], [], false⟩

/-- The journal after step 7 of Table 1-4, with the last word of it in the touched set. -/
def j7 : Journal := ⟨0, 255, 255, 256, 255, 2, [⟨0, 1, 1, 2, 0⟩, ⟨4, 5, 2, 1, 0⟩], [0x100], false⟩

/-- The journal after step 11 of Table 1-4: free is 0. -/
def j11 : Journal := ⟨4, 4, 256, 261, 260, 3, [⟨4, 5, 2, 1, 0⟩, ⟨3, 260, 3, 1, 0⟩], [], false⟩

/-- A frame has just begun. -/
def inFrame (s : State) : State := { s with link := ⟨.code, false, none⟩ }

/-- An exclusive operation runs. -/
def exclusively (e : Exclusive) (s : State) : State := { s with engine := { s.engine with exclusive := some e } }

/-- These jobs are queued. -/
def withQueue (q : List Job) (s : State) : State := { s with engine := { s.engine with jobs := q } }

/-- Recovery stands at this step. -/
def recovering (r : RecoveryStep) : State :=
  { State.reset with engine := { coldEngine with geometry := some 0, recovery := some r } }

/-- A rollback record to slot 0 of `j4`, from this origin in this phase. -/
def record (o : RollbackOrigin) (p : RollbackPhase) : RollbackRecord := ⟨o, 0, 1, 1, p, 4, 5⟩

/-- A rollback is in progress on this journal. -/
def rolling (r : RollbackRecord) (j : Journal) : State :=
  let s := engineIn .rolling j
  { s with engine := { s.engine with rollback := some r, exclusive := some .rollback, steps := 4 } }

/-- A host word at 1000 hex, alone in its access. -/
def word (kind : AccessKind) (phase : WordPhase) (hold : Option Nat) : HostAccess :=
  ⟨kind, 0x1000, [⟨0xF, 0xCAFE⟩], 0, false, phase, hold, none⟩

/-- This host word is current. -/
def hosting (c : HostAccess) (s : State) : State := { s with host := ⟨some c, [], []⟩ }

/-- These requests stay presented. -/
def presenting (rs : List HostRequest) (s : State) : State := { s with host := { s.host with presented := rs } }

/-- A host word granted under a mode with no region. -/
def grantedWord (m : Mode) : HostAccess := { word .write .granted none with grant := some ⟨m, none⟩ }

/-- A word granted under the mode of region 3. -/
def regionWord : HostAccess := { word .write .granted none with grant := some ⟨.journal, some 3⟩ }

/-- An access of this work awaits its answer: the last write of its step. -/
def atWrite (w : Work) (s : State) : State := { s with port := ⟨some ⟨w, .write 0x1000 0xF 0 []⟩, .engine⟩ }

/-- An access of this work awaits its answer: the last read of its step, these words having been read. -/
def atRead (w : Work) (got : List Word) (s : State) : State := { s with port := ⟨some ⟨w, .read 0x1000 0 got⟩, .engine⟩ }

theorem atWrite_last (w : Work) (s : State) : (atWrite w s).lastWrite w := ⟨_, _, _, rfl⟩
theorem atWrite_working (w : Work) (s : State) : (atWrite w s).working w := ⟨_, rfl⟩
theorem atRead_last (w : Work) (got : List Word) (s : State) : (atRead w got s).lastRead w got := ⟨_, rfl⟩
theorem atRead_working (w : Work) (got : List Word) (s : State) : (atRead w got s).working w := ⟨_, rfl⟩

/-- The default mode in force. -/
def defaulting (m : Mode) (s : State) : State := { s with regions := { s.regions with activeDefault := m } }

/-- The full policy in force. -/
def policy (p : FullPolicy) (s : State) : State := { s with settings := { s.settings with fullPolicy := p } }

/-- Region 3 counts this target, without comparing. -/
def counting (t : CountTarget) (s : State) : State :=
  { s with regions := { s.regions with
    active := s.regions.active.set 3 ⟨{ coldRegion with enabled := true, target := t }, 7, false⟩ } }

/-- Region 3 counts, and its next count is a match with this action and ring. -/
def comparing (a : CompareAction) (ring : Bool) (s : State) : State :=
  { s with regions := { s.regions with
    active := s.regions.active.set 3 ⟨{ coldRegion with enabled := true, compareValue := 8, compareAction := a, ring := ring }, 7, false⟩ } }

/-- The state a command leaves. -/
def after (c : Instr) (s : State) : State :=
  match exec c s with
  | .next t => t
  | _ => s

/-- The answer a command is given. -/
def answerOf (c : Instr) (s : State) : Option Response := (after c (inFrame s)).link.response

/-! ## Well-formedness (Table 12-1, R169) -/

theorem test_noWords_refused : (Instr.hostAccess .read 0 []).wellFormed = false := by decide
theorem test_nineWords_refused : (Instr.hostAccess .read 0 (List.replicate 9 ⟨0, 0⟩)).wellFormed = false := by decide
theorem test_misaligned_refused : (Instr.hostAccess .read 2 [⟨0, 0⟩]).wellFormed = false := by decide
theorem test_eightWords_wellFormed : (Instr.hostAccess .read 4 (List.replicate 8 ⟨0, 0⟩)).wellFormed = true := by decide
theorem test_statusFrame_not_unknown : (Instr.frameUnknown 0x01 0).wellFormed = false := by decide
theorem test_unknownCode_wellFormed : (Instr.frameUnknown 0x15 0).wellFormed = true := by decide
theorem test_longFrame_wellFormed : (Instr.frameUnknown 0x05 33).wellFormed = true := by decide

/-! ## Frames (Tables 11-3 and 11-9) and records (R183, Tables 11-1 and 11-2) -/

theorem test_frame_set : decodeFrame 0x03 [5, 0, 0, 0x07, 0xD0] = some (.set 5 2000) := by decide
theorem test_frame_rollback : decodeFrame 0x0B [1] = some (.rollback 1) := by decide
theorem test_frame_peek : decodeFrame 0x0E [0x01, 0xFF] = some (.peek 511) := by decide
theorem test_frame_captureSet : decodeFrame 0x11 [0, 2, 3, 0xFF] = some (.captureSet 0 2 3 0xFF) := by decide
theorem test_frame_ackEvents : decodeFrame 0x13 [1, 0, 0, 0] = some (.ackEvents 0x1000000) := by decide
theorem test_frame_tableWrite :
    decodeFrame 0x05 [3, 0x01, 0x02, 1, 0x0F, 0x7F, 0x00, 0x00, 0x01, 0x00, 2, 1, 1, 0, 0, 0, 0, 9, 0, 0, 0, 5] =
      some (.tableWrite 3 0x102 ⟨1, 0x0F7F00, 0x100, 2, 1, 1, 0, 9, 5⟩) := by decide
theorem test_frame_shortSet_unknown : decodeFrame 0x03 [5] = some (.frameUnknown 0x03 1) := by decide
theorem test_frame_afterCommand : FramePhase.receive .code [0x02, 1, 5] = .turnaround := by decide
theorem test_check_value : crcBytes [0x31, 0x32, 0x33, 0x34, 0x35, 0x36, 0x37, 0x38, 0x39] = 0xCBF43926 := by
  decide +kernel
theorem test_zeroSlot_is_no_entry : parseEntry (List.replicate 8 0) = none := by decide +kernel
theorem test_zeroCopy_invalid : parseAnchor 0 (List.replicate 8 0) = none := by decide +kernel
theorem test_anchor_word1 : (AnchorCopy.mk 1 .rolling 5 2 .revert 0 0 0 0).word1 = 0x00012504 := by decide
theorem test_later_wraps : later 3 (BitVec.ofNat 32 (2 ^ 32 - 5)) = true := by decide

/-! ## Geometry (R4's example) and reset -/

theorem test_slot0_address :
    ({ State.reset with engine := { coldEngine with geometry := some 2 } } : State).slotAddress 0 = 0x0F7FC0 := by decide
theorem test_dataSpace_unformatted : State.reset.dataSpaceEnd = 0x0FFFC0 := by decide
theorem test_strap7_is_16MiB : memoryBytes (effectiveCode 7) = 16777216 := by decide
theorem test_resetEnd_gives_reset : exec (.resetEnd 0 false false false) State.cold = .next State.reset := rfl
theorem test_coldReset_holds : (after .coldReset (engineIn .armed j4)).control.resetHeld = true := rfl
theorem test_decodeTableWord_none : decodeTableWord 8 1 = none := rfl

/-! ## Commands (Table 10-4, R41, R46, R129, R181) -/

theorem test_mark_unformatted : answerOf .mark (engineIn .unformatted j0) = some ⟨.wrongState, []⟩ := by decide
theorem test_arm_unformatted : answerOf (.arm 0) (engineIn .unformatted j0) = some ⟨.notFormatted, []⟩ := by decide
theorem test_arm_badAction : answerOf (.arm 2) (engineIn .disarmed j0) = some ⟨.badArg, []⟩ := by decide
theorem test_disarm_armed : answerOf .disarm (engineIn .armed j4) = some ⟨.accepted, []⟩ := by decide
theorem test_release_busy_queued :
    answerOf (.release 1) (withQueue [.release 2] (engineIn .armed j4)) = some ⟨.busy, []⟩ := by decide
theorem test_rollback_tooDeep : answerOf (.rollback 3) (engineIn .armed j4) = some ⟨.badArg, []⟩ := by decide
theorem test_discard_empty_done :
    hasFlag (after .discard (inFrame (engineIn .disarmed j0))).events.flags .releaseDone = true := by decide
theorem test_format_too_large : answerOf (.format 6) (engineIn .disarmed j0) = some ⟨.badArg, []⟩ := by decide
theorem test_peek_outside : answerOf (.peek 256) (engineIn .armed j4) = some ⟨.badArg, []⟩ := by decide
theorem test_peekRead_empty : answerOf .peekRead (engineIn .armed j4) = some ⟨.notReady, []⟩ := by decide
theorem test_install_armed : answerOf .install (engineIn .armed j4) = some ⟨.wrongState, []⟩ := by decide
theorem test_restart_pfail :
    answerOf .restart { State.reset with control := ⟨true, true, false, 0, false⟩ } = some ⟨.wrongState, []⟩ := by decide
theorem test_set_beyond_byte : answerOf (.set 1 0x102) (engineIn .armed j4) = some ⟨.badArg, []⟩ := by decide
theorem test_get_holdLimit : answerOf (.get 5) State.reset = some ⟨.ok, [0, 0, 7, 0xD0]⟩ := by decide
theorem test_ackEvents_bit25 : answerOf (.ackEvents 0x2000000) State.reset = some ⟨.badArg, []⟩ := by decide
theorem test_marksRead_empty : answerOf (.marksRead 15 4) (engineIn .armed j4) = some ⟨.ok, []⟩ := by decide
theorem test_marksRead_one :
    answerOf (.marksRead 1 4) (engineIn .armed j4) =
      some ⟨.ok, [0, 0, 0, 2, 0x01, 0x00, 0x04, 0, 0, 0, 5, 0, 0, 0, 0]⟩ := by decide
theorem test_status_length : (answerOf .status (engineIn .armed j4)).map (·.data.length) = some 26 := by decide
theorem test_tableRead_staged_default : (answerOf (.tableRead 11 1) State.reset).map (·.data) = some
    ([1, 11] ++ List.replicate 21 0 ++ [1, 0]) := by decide
theorem test_tableRead_bad : answerOf (.tableRead 12 0) State.reset = some ⟨.badArg, []⟩ := by decide
theorem test_tableWrite_emptyMask :
    (after (.tableWrite 2 0 ⟨9, 9, 9, 9, 9, 9, 9, 9, 9⟩) (inFrame State.reset)).regions.staged[2].installs = true := by decide
theorem test_tableWrite_base_above_limit :
    answerOf (.tableWrite 2 2 ⟨0, 0x100, 0, 0, 0, 0, 0, 0, 0⟩) State.reset = some ⟨.badArg, []⟩ := by decide
theorem test_captureSet_filter_cause : answerOf (.captureSet 0 1 4 3) State.reset = some ⟨.badArg, []⟩ := by decide
theorem test_captureRead_empty :
    (answerOf (.captureRead 3) State.reset).map (·.data) = some ([0, 0, 0, 0xFF] ++ List.replicate 30 0) := by decide
theorem test_unknown_while_halted :
    (after (.frameUnknown 0x20 3) (inFrame { State.reset with control := ⟨false, true, false, 0, false⟩ })).link.response =
      some ⟨.unknown, []⟩ := by decide

/-! ## The worked sequence of Table 1-4 -/

theorem test_step1_arm_mark :
    (after (.memoryAnswer true 0) (atWrite (.armAppend .keep 4 0) (engineIn .disarmed j0))).engine.journal =
      ⟨0, 1, 1, 2, 1, 1, [⟨0, 1, 1, 2, 0⟩], [], false⟩ := by decide
theorem test_step1_arm_link : (markEntry Source.arm.only (engineIn .disarmed j0)).link = 0 := by decide
theorem test_step4_mark :
    (after (.memoryAnswer true 0) (atWrite (.markAppend 1 4 0)
      (engineIn .armed ⟨0, 4, 4, 5, 4, 1, [⟨0, 1, 1, 2, 0⟩], [4, 8, 12], false⟩))).engine.journal = j4 := by decide
theorem test_step5_journalHigh : hasFlag (after (.memoryAnswer true 0) (atWrite .hostUndo (hosting (grantedWord .journal)
    (engineIn .armed { j4 with tail := 191, fill := 191 })))).events.flags .journalHigh = true := by decide
theorem test_step8_release :
    (fun j : Journal => (j.head, j.fill, j.marks)) (after (.memoryAnswer true 0) (atWrite .hostRelease
      (hosting (grantedWord .journal) (engineIn .armed j7)))).engine.journal = (4, 251, [⟨4, 5, 2, 1, 0⟩]) := by decide
theorem test_step8_lose :
    (fun j : Journal => (j.head, j.fill, j.nextSequence, j.lapsed)) (after (.memoryAnswer true 0) (atWrite .hostLose
      (hosting (grantedWord .journal) (engineIn .armed j7)))).engine.journal = (255, 0, 256, true) := by decide
theorem test_step12_room :
    (fun j : Journal => (j.head, j.fill, j.marks.length)) (after (.memoryAnswer true 0) (atWrite (.markRoom 4 4)
      (engineIn .armed j11))).engine.journal = (3, 1, 1) := by decide

/-! ## Host words, captures, counts, time (R50, R53, R66, R83, R148) -/

theorem test_read_held_in_recovery :
    (after (.hostAccess .read 0x1000 [⟨0xF, 0⟩]) State.reset).host.current.map (·.phase) = some .held := by decide
theorem test_write_outOfSpace :
    (after (.hostAccess .write 0x0FFFC0 [⟨0xF, 0⟩, ⟨0xF, 0⟩]) State.reset).host.answers =
      [.fault .outOfSpace none, .fault .skipped none] := by decide
theorem test_burst_does_not_wrap :
    (after (.hostAccess .read 0xFFFFFC [⟨0xF, 0⟩, ⟨0xF, 0⟩]) State.reset).host.answers =
      [.fault .outOfSpace (some 0), .fault .outOfSpace (some 0)] := by decide
theorem test_first_capture_held : (after .pfailAssert { State.reset with
    captures := State.reset.captures.set 1 ⟨.first, .active, .powerFail, none, false, 0, none⟩ }).captures[1].phase =
      .held := by decide
theorem test_idle_counts_hold :
    (idle (hosting (word .read .held (some 5)) (engineIn .rolling j4))).host.current.bind (·.hold) = some 6 := by decide
theorem test_tick_counts_timer : (after .timestampTick { State.reset with
    sources := ⟨0xFFFFFFFF, false, none, some 3, 999⟩ }).sources = ⟨0, false, none, some 2, 0⟩ := by decide
theorem test_tick_passes_the_millisecond :
    (after .timestampTick (hosting (word .read .held (some 5)) (engineIn .rolling j4))).host.current.bind (·.hold) =
      some 1005 := by decide
theorem test_idle_expires_hold :
    (idle (hosting (word .read .held (some 2000)) (engineIn .rolling j4))).host.answers = [.fault .stallExpired (some 0)] := by
  decide
theorem test_hold_below_limit_stands :
    (after .holdExpiry (hosting (word .read .held (some 1999)) (engineIn .rolling j4))).host.answers = [] := by decide
theorem test_write_report_before_expiry :
    (after .quietExpiry { State.reset with
      settings := { coldSettings with timerMode := .quiet }
      sources := ⟨0, false, none, some 1000, 0⟩ }).sources.timer = some 1000 := by decide
theorem test_request_stays_presented :
    (after (.hostAccess .read 0x2000 [⟨0xF, 0⟩]) (hosting (word .read .held (some 3)) (engineIn .rolling j4))).host.presented =
      [⟨.read, 0x2000, [⟨0xF, 0⟩]⟩] := by decide
theorem test_presented_request_is_taken :
    (after (.memoryAnswer true 7) (presenting [⟨.read, 0x2000, [⟨0xF, 0⟩]⟩] (atRead .hostRead []
      (hosting { word .read .granted none with grant := some ⟨.pass, none⟩ } (engineIn .armed j4))))).host =
      ⟨some ⟨.read, 0x2000, [⟨0xF, 0⟩], 0, false, .waiting, none, none⟩, [.done (some 7)], []⟩ := by decide
theorem test_capture_far_address_runs :
    (recordBytes ⟨.fault, 0, .armed, false, 0, 0, 0, some ⟨2 ^ 24, .read, 0xF⟩, none, none, some .outOfSpace, none⟩).length =
      28 := by simp [recordBytes, bytes32, twoBytes, bytes16, bytes24]

/-- Slot 0 captures LOCKED_WRITE and slot 1 every FAULT; writes inside the region that contains 1000 hex are LOCKED. -/
def watching : State :=
  { engineIn .broken j0 with
    captures := (State.reset.captures.set 0 ⟨.first, .active, .lockedWrite, some 3, false, 0, none⟩).set 1
      ⟨.every, .active, .fault, none, false, 0, none⟩
    regions := { coldRegions with
      active := State.reset.regions.active.set 3 ⟨{ coldRegion with enabled := true, limit := 0xFF00, mode := .locked }, 0, false⟩ } }

/-- R56, R69, R147: a LOCKED write is recorded by both slots, with its region; its SKIPPED rest by the FAULT slot alone. -/
theorem test_lockedWrite_recorded :
    let s := after .hostTenancy (hosting ⟨.write, 0x1000, [⟨0xF, 5⟩, ⟨3, 6⟩], 0, false, .waiting, none, none⟩ watching)
    s.captures[0].record =
      some ⟨.lockedWrite, 0, .broken, false, 0, 1, 0, some ⟨0x1000, .write, 0xF⟩, some 5, some 3, none, none⟩ ∧
    s.captures[1].count = 2 ∧ s.captures[1].record =
      some ⟨.fault, 0, .broken, false, 0, 1, 0, some ⟨0x1004, .write, 3⟩, some 6, none, some .skipped, none⟩ := by decide

/-- Log entry 28, R50, R69: a write without lanes beyond data space is answered FAULT and recorded. -/
theorem test_noLanes_outOfSpace_recorded :
    ((after (.hostAccess .write 0x0FDFC0 [⟨0, 7⟩]) watching).captures[1].record.bind (·.faultCause)) = some .outOfSpace := by
  decide

/-- R71: RESTART answers a held read RESTART, and the next word of its access waits. -/
theorem test_restart_next_word_waits :
    (after .restart (inFrame (hosting ⟨.read, 0x1000, [⟨0xF, 0⟩, ⟨0xF, 0⟩], 0, false, .held, some 3, none⟩
      (engineIn .armed j4)))).host =
      ⟨some ⟨.read, 0x1000, [⟨0xF, 0⟩, ⟨0xF, 0⟩], 1, false, .waiting, none, none⟩, [.fault .restart (some 0)], []⟩ := by decide

/-- R163: the SET of an enable whose flag is set drives ATTN low, and its acknowledgement releases it. -/
theorem test_attn_follows_the_enabled_flags :
    let s := after (.set 10 0x1000000) (inFrame (setFlag .powerFail State.reset))
    s.attnLow = true ∧ (after (.ackEvents 0x1000000) (inFrame s)).attnLow = false ∧
    (setFlag .powerFail State.reset).attnLow = false := by decide

/-- R88: an arming whose MARK slot write fails. -/
theorem test_failed_arming_stays_disarmed :
    let s := after (.memoryAnswer false 0) (atWrite (.armAppend .keep 4 0) (exclusively (.arm .keep) (engineIn .disarmed j0)))
    s.engine.state = .disarmed ∧ s.engine.journal = j0 ∧ s.engine.exclusive = none ∧
    hasFlag s.events.flags .memoryFault = true ∧ hasFlag s.events.flags .markMissed = true := by decide

/-! ## Witnesses: states that meet the statements' hypotheses -/

/-- The part halted, with PFAIL asserted. -/
def haltedPart (s : State) : State := { s with control := ⟨true, true, false, 0, false⟩ }

/-- A restart is pending. -/
def restarting (s : State) : State := { s with control := ⟨false, false, false, 0, true⟩ }

/-- A host word waits, with the journal in this state. -/
def waitingIn (kind : AccessKind) (x : EngineState) (j : Journal) (m : Mode) : State :=
  defaulting m (hosting (word kind .waiting none) (engineIn x j))

/-- A rollback is in progress and a host word waits. -/
def waitingRolling (kind : AccessKind) (m : Mode) : State :=
  defaulting m (hosting (word kind .waiting (some 1999)) (rolling (record .armed .restore) j4))

/-- A retained journal of one mark. -/
def jOne : Journal := ⟨0, 1, 1, 2, 1, 1, [⟨0, 1, 1, 2, 0⟩], [], false⟩

/-- An entry of the sample journal: the UNDO at slot 3. -/
def undo3 : Entry := ⟨.undo, 4, 3, 0x1000, 0xAA, 1, 0⟩

/-- An anchor copy of the sample part. -/
def copyOf (st : AnchorState) (g : Word) : AnchorCopy := ⟨g, st, 0, 0, .keep, 255, 1, 0, 0⟩

theorem listens (x : EngineState) (j : Journal) : (inFrame (engineIn x j)).engineListens := ⟨⟨rfl, rfl⟩, rfl, rfl⟩
theorem free (x : EngineState) (j : Journal) : (inFrame (engineIn x j)).engineFree := ⟨rfl, rfl, fun ⟨_, h, _⟩ => nomatch h⟩

/-- A forwarded host write is in progress while a command is taken. -/
def hostBusy (x : EngineState) (j : Journal) : State :=
  inFrame (atWrite .hostWrite (hosting (grantedWord .pass) (engineIn x j)))

theorem hostBusy_listens (x : EngineState) (j : Journal) : (hostBusy x j).engineListens := ⟨⟨rfl, rfl⟩, rfl, rfl⟩
theorem hostBusy_free (x : EngineState) (j : Journal) : (hostBusy x j).engineFree :=
  ⟨rfl, rfl, fun ⟨_, h, hw⟩ => by cases h; exact nomatch hw⟩
theorem hostBusy_releases_nothing (x : EngineState) (j : Journal) : ¬ (hostBusy x j).hostReleases := by
  rintro (⟨_, h⟩ | ⟨_, h⟩ | ⟨_, h⟩) <;> cases h

/-- These words of a slot or a copy, with the check that completes them. -/
def readBack (ws : List Word) : List Word := ws ++ [crcWords ws]

/-- `State.faultAnswered` with no request presented: the rest of a write, of a read while HALTED and of a read up to the end of
data space fail; a read with its next word inside data space goes on. -/
theorem witness_faultAnswered :
    let s := engineIn .armed j4
    let c (a : Addr) : HostAccess := ⟨.read, a, [⟨0xF, 0⟩, ⟨0xF, 0⟩], 0, false, .held, some 2000, none⟩
    (hosting (c 0) s).host.presented = [] ∧ (word .write .held none).restFails s = some .skipped ∧
    (c 0).restFails (haltedPart s) = some .powerFail ∧ (c 0x0FDFBC).restFails s = some .outOfSpace ∧
    (c 0x0FDFB8).restFails s = none ∧ (c 0x0FDFB8).position + 1 < (c 0x0FDFB8).words.length := by decide

theorem witness_ResetEndSamplesTheLevels : State.cold.control.resetHeld = true ∧ State.cold.control.halted = false ∧
    State.cold.control.pfail = false ∧ State.cold.host.current = none := ⟨rfl, rfl, rfl, rfl⟩

theorem witness_WarmRestartEntersRecovery :
    let s := restarting (hosting (word .write .waiting none) (engineIn .armed j4))
    s.control.resetHeld = false ∧ s.control.restartPending = true ∧ s.port.tenancy = none := ⟨rfl, rfl, rfl⟩

theorem witness_PfailHaltsThePart :
    ((haltedPart State.reset).control.resetHeld = false ∧ (haltedPart State.reset).control.pfail = true) ∧
    (let s := hosting (grantedWord .journal) (atWrite .hostWrite (engineIn .armed j4))
     s.control.resetHeld = false ∧ s.control.pfail = false ∧ ∀ c, s.host.current = some c → c.phase = .granted) ∧
    (let s := { State.reset with control := ⟨false, true, false, 0, false⟩ }
     s.control.resetHeld = false ∧ s.control.pfail = false ∧ s.control.halted = true) ∧
    ∀ rs, let c := word .read .held (some 3)
      let s := presenting rs (hosting c (engineIn .armed j4))
      s.control.resetHeld = false ∧ s.control.pfail = false ∧ s.control.halted = false ∧ s.host.current = some c ∧ c.waits ∧
        c.position < c.words.length ∧ c.skipping = false ∧ s.host.presented = rs :=
  ⟨⟨rfl, rfl⟩, ⟨rfl, rfl, fun _ h => by cases h; rfl⟩, ⟨rfl, rfl, rfl⟩,
    fun _ => ⟨rfl, rfl, rfl, rfl, .inr rfl, by decide, rfl, rfl⟩⟩

/-- Nothing due, at either end of a millisecond; then each of the three dues, with none of those before it; then the first and
last byte of a response. -/
theorem witness_TimePasses :
    (∀ n, let s := { State.reset with sources := ⟨0, false, some 1, some 0, n⟩, settings := { coldSettings with lineFilter := .us2 } }
      s.control.resetHeld = false ∧ s.pending = [] ∧
      ¬ (∃ c n, s.host.current = some c ∧ c.waits ∧ c.hold = some n ∧ s.settings.holdLimit ≠ 0 ∧ s.settings.holdLimit ≤ n) ∧
      ¬ (∃ n, s.sources.candidate = some n ∧ s.settings.lineFilter.micros ≤ n) ∧
      ¬ (s.sources.timer = some 0 ∧ s.settings.timerMode ≠ .off)) ∧
    (let c := word .read .held (some 2000)
     let s := hosting c (engineIn .armed j4)
     s.control.resetHeld = false ∧ s.host.current = some c ∧ c.waits ∧ c.hold = some 2000 ∧ s.settings.holdLimit ≠ 0 ∧
       s.settings.holdLimit ≤ 2000 ∧ ∃ t, exec .holdExpiry s = .next t) ∧
    (∀ m : TimerMode, m ≠ .off → let s := { State.reset with
        settings := { coldSettings with lineFilter := .us2, timerMode := m }
        sources := ⟨0, false, some 2, some 0, 0⟩ }
      s.control.resetHeld = false ∧ s.host.current = none ∧ s.sources.candidate = some 2 ∧ s.settings.lineFilter.micros ≤ 2 ∧
      (∃ t, exec .filteredChange s = .next t) ∧
      (let u := { s with sources := { s.sources with candidate := none } }
       ¬ (∃ n, u.sources.candidate = some n ∧ u.settings.lineFilter.micros ≤ n) ∧
       u.sources.timer = some 0 ∧ u.settings.timerMode ≠ .off ∧ u.settings.timerPeriod ≠ 0)) ∧
    (∀ k ∈ [0, 27], let s := after .status (inFrame State.reset)
      let u := { s with link := { s.link with phase := .response (28 - k) } }
      u.link.response.map (·.data.length) = some 26 ∧ k < 26 + 2) ∧
    ∀ k, State.reset.link.phase ≠ .response k :=
  ⟨fun _ => ⟨rfl, rfl, (by rintro ⟨_, _, h, _⟩; cases h),
      (by rintro ⟨_, h, hl⟩; cases h; exact absurd hl (by decide : ¬ 2 ≤ 1)), fun h => h.2 rfl⟩,
    ⟨rfl, rfl, .inr rfl, rfl, by decide, by decide, _, rfl⟩,
    fun _ hm => ⟨rfl, rfl, rfl, Nat.le_refl 2, ⟨_, rfl⟩, (by rintro ⟨_, h, _⟩; cases h), rfl, hm, (by decide : 1000 ≠ 0)⟩,
    by decide, fun _ h => nomatch h⟩

theorem witness_EnterHaltedStopsTheEngine :
    let s := haltedPart (withQueue [.mark] (engineIn .armed j4))
    s.control.resetHeld = false ∧ s.control.halted = true ∧ s.port.tenancy = none ∧ s.engine.state ≠ .halted := by decide

theorem witness_FramesBeginAndEnd :
    ((inFrame State.reset).serving ∧ malformed 0x15 0 = true ∧ malformed 0x05 255 = true) ∧
    (State.reset.control.resetHeld = false ∧ State.reset.link.phase = .idle ∧ State.reset.link.ignoring = false) ∧
    (after .status (inFrame State.reset)).link.phase = .turnaround ∧ (inFrame State.reset).link.phase = .code ∧
    (after (.resetEnd 0 false false true) State.cold).link.ignoring = true :=
  ⟨⟨⟨rfl, rfl⟩, rfl, rfl⟩, ⟨rfl, rfl, rfl⟩, rfl, rfl, rfl⟩

/-- Every clause at a boundary of its range; the captured record names a host word below 2^24. -/
theorem witness_ReadsAnswerAndChangeNothing :
    (readsOnly (.marksRead 0 4) = true ∧ readsOnly .peekRead = true ∧ (inFrame (haltedPart State.reset)).serving) ∧
    (let ready := { State.reset with engine := { State.reset.engine with peek := .ready ⟨255, .valid, true, [1, 2]⟩ } }
     (inFrame ready).serving ∧ ∃ r, (inFrame ready).engine.peek = .ready r) ∧
    ((inFrame State.reset).serving ∧ (inFrame State.reset).engine.peek = .empty) ∧
    (11 < (12 : Byte).toNat ∧ 1 < (2 : Byte).toNat ∧ 15 < (16 : Byte).toNat ∧ 4 < (5 : Byte).toNat ∧ 3 < (4 : Byte).toNat) ∧
    (let r : CaptureRecord := ⟨.fault, 0, .armed, false, 0, 0, 0, some ⟨2 ^ 24 - 4, .write, 0xF⟩, some 0, none, some .outOfSpace,
      none⟩
     let s := inFrame { State.reset with captures := State.reset.captures.set 3 { coldCapture with record := some r } }
     s.serving ∧ s.captures[3].record = some r ∧ ∀ w, r.word = some w → w.address < 2 ^ 24) :=
  ⟨⟨rfl, rfl, rfl, rfl⟩, ⟨⟨rfl, rfl⟩, _, rfl⟩, ⟨⟨rfl, rfl⟩, rfl⟩,
    by decide, ⟨⟨rfl, rfl⟩, rfl, fun w h => by cases h; decide⟩⟩

theorem witness_CaptureSetStartsTheSlot : (inFrame State.reset).serving ∧ (inFrame State.reset).control.halted = false ∧
    3 < (4 : Byte).toNat ∧ 2 < (3 : Byte).toNat ∧ 7 < (8 : Byte).toNat ∧ 11 < (12 : Byte).toNat ∧ (12 : Byte).toNat ≠ 255 ∧
    (254 : Byte).toNat ≠ 255 := ⟨⟨rfl, rfl⟩, rfl, by decide⟩

theorem witness_AckEventsClearsTheNamedFlags : (inFrame (haltedPart State.reset)).serving ∧
    2 ^ 25 ≤ (0x2000000 : Word).toNat ∧ (0x1FFFFFF : Word).toNat < 2 ^ 25 ∧ (0x1FFFFFF : Word).getLsbD 9 = true ∧
    (0x1FFFDFF : Word).getLsbD 9 = false := ⟨⟨rfl, rfl⟩, by decide⟩

theorem witness_StatusShowsTheSnapshot : (inFrame (engineIn .armed j11)).serving := ⟨rfl, rfl⟩

theorem witness_GetReturnsAndSetRefuses :
    (inFrame State.reset).serving ∧ (inFrame State.reset).control.halted = false ∧ 10 < (11 : Byte).toNat ∧
    3 < (4 : Word).toNat ∧ 16 < (17 : Word).toNat ∧ 65535 < (65536 : Word).toNat ∧ 2 ^ 25 ≤ (0x2000000 : Word).toNat :=
  ⟨⟨rfl, rfl⟩, by decide, by decide, by decide, by decide, by decide, by decide⟩

theorem witness_SetGivesTheItemItsValue :
    let s := inFrame (hosting (word .read .held (some 65534)) (engineIn .armed j4))
    let t := inFrame { State.reset with sources := ⟨0, false, some 999, none, 0⟩ }
    s.serving ∧ s.control.halted = false ∧ t.serving ∧ t.control.halted = false ∧
    ((3 : Word).toNat = FullPolicy.lose.code ∧ (7 : Word).toNat ≤ 7 ∧ 1 ≤ (16 : Word).toNat ∧ (16 : Word).toNat ≤ 16 ∧
      (2 : Word).toNat = Mode.locked.code ∧ (2 : Word).toNat = TimerMode.quiet.code ∧ (65535 : Word).toNat ≤ 65535 ∧
      (3 : Word).toNat = LineEdge.both.code ∧ (3 : Word).toNat = LineFilter.ms1.code ∧
      (0x1FFFFFF : Word).toNat < 2 ^ 25) ∧
    (∀ c n, s.host.current = some c → c.waits → c.hold = some n → (65535 : Word).toNat = 0 ∨ n < (65535 : Word).toNat) ∧
    (∀ n, t.sources.candidate = some n → n < LineFilter.ms1.micros) :=
  ⟨⟨rfl, rfl⟩, rfl, ⟨rfl, rfl⟩, rfl, by decide,
    fun c n h _ h2 => by cases h; cases h2; exact .inr (by decide), fun n h => by cases h; decide⟩

theorem witness_SetActsAtOnceOnHoldAndFilter :
    (let c := word .read .held (some 2000)
     let s := inFrame (hosting c (engineIn .armed j4))
     s.serving ∧ s.control.halted = false ∧ s.host.current = some c ∧ c.waits ∧ c.hold = some 2000 ∧
       (2000 : Word).toNat ≠ 0 ∧ (2000 : Word).toNat ≤ 2000) ∧
    (∀ e, let s := inFrame { State.reset with
        settings := { coldSettings with lineEdge := e }
        sources := ⟨0, false, some 2, none, 0⟩ }
     s.serving ∧ s.control.halted = false ∧ (1 : Word).toNat = LineFilter.us2.code ∧ s.sources.candidate = some 2 ∧
       LineFilter.us2.micros ≤ 2 ∧ s.settings.lineEdge = e ∧ s.sources.level = false) :=
  ⟨⟨⟨rfl, rfl⟩, rfl, rfl, .inr rfl, rfl, by decide, by decide⟩, fun _ => ⟨⟨rfl, rfl⟩, rfl, rfl, rfl, by decide, rfl, rfl⟩⟩

theorem witness_HaltAndRestartRefuseCommands :
    (inFrame (haltedPart State.reset)).serving ∧ refusedWhileHalted (.captureSet 0 0 0 0) = true ∧
    (haltedPart State.reset).control.halted = true ∧ (inFrame (restarting State.reset)).serving ∧
    refusedWhileRestarting (.peek 0) = true ∧ (restarting State.reset).control.halted = false ∧
    (restarting State.reset).control.restartPending = true := ⟨⟨rfl, rfl⟩, rfl, rfl, ⟨rfl, rfl⟩, rfl, rfl, rfl⟩

/-- Every engine state, free; arguments on both sides of their ranges; then each way to be busy. -/
theorem witness_AnswersByEngineState :
    (∀ x j, (inFrame (engineIn x j)).engineListens ∧ (inFrame (engineIn x j)).engineFree ∧
      ¬ (inFrame (engineIn x j)).hostReleases) ∧
    (let s := inFrame (engineIn .armed j4)
     (16 : Byte).toNat ≤ 16 ∧ 16 < (17 : Byte).toNat ∧ (0 : Byte).toNat = 0 ∧ 1 < (2 : Byte).toNat ∧
       ((5 : Byte).toNat < 8 ∧ 32 * (256 * 2 ^ (5 : Byte).toNat) ≤ s.memorySize / 4) ∧
       ¬ ((6 : Byte).toNat < 8 ∧ 32 * (256 * 2 ^ (6 : Byte).toNat) ≤ s.memorySize / 4) ∧ ¬ (8 : Byte).toNat < 8 ∧
       s.engine.state ≠ .halted) ∧
    (∀ x j, (withQueue [.mark] (inFrame (engineIn x j))).engineListens ∧
      (withQueue [.mark] (inFrame (engineIn x j))).engine.jobs ≠ []) ∧
    (let s := inFrame (atWrite (.markLimit 1 1) (engineIn .armed j4))
     s.engineListens ∧ s.jobServed) ∧
    (let s := inFrame (exclusively .disarm (engineIn .armed j4))
     s.engineListens ∧ s.engine.exclusive ≠ none) ∧
    (let s := inFrame (atWrite .hostRelease (hosting (grantedWord .journal) (engineIn .armed j7)))
     s.engineListens ∧ s.hostReleases) ∧
    (let s := inFrame (withQueue [.release 2, .peek 0] (engineIn .armed j4))
     s.engineListens ∧ (∃ m, Job.release m ∈ s.engine.jobs) ∧ ∃ m, Job.peek m ∈ s.engine.jobs) ∧
    (let s := inFrame (atRead (.peek 0 true) [] (engineIn .armed j4))
     s.engineListens ∧ ∃ m k, s.working (.peek m k)) :=
  ⟨fun x j => ⟨listens x j, free x j, by rintro (⟨_, h⟩ | ⟨_, h⟩ | ⟨_, h⟩) <;> cases h⟩, by decide,
    fun _ _ => ⟨⟨⟨rfl, rfl⟩, rfl, rfl⟩, nofun⟩, ⟨⟨⟨rfl, rfl⟩, rfl, rfl⟩, _, rfl, rfl⟩, ⟨⟨⟨rfl, rfl⟩, rfl, rfl⟩, nofun⟩,
    ⟨⟨⟨rfl, rfl⟩, rfl, rfl⟩, .inr (.inl ⟨_, rfl⟩)⟩,
    ⟨⟨⟨rfl, rfl⟩, rfl, rfl⟩, ⟨2, by decide⟩, ⟨0, by decide⟩⟩, ⟨⟨rfl, rfl⟩, rfl, rfl⟩, _, _, _, rfl⟩

theorem witness_ExclusiveCommandsAreTaken :
    (∀ x j, (inFrame (engineIn x j)).engineListens ∧ (inFrame (engineIn x j)).engineFree) ∧
    (∀ x j, (hostBusy x j).engineListens ∧ (hostBusy x j).engineFree) ∧
    (∀ j, (hostBusy .disarmed j).engine.state = .disarmed ∧ (hostBusy .armed j).engine.state = .armed) ∧
    j0.fill = 0 ∧ j4.fill ≠ 0 :=
  ⟨fun x j => ⟨listens x j, free x j⟩, fun x j => ⟨hostBusy_listens x j, hostBusy_free x j⟩, fun _ => ⟨rfl, rfl⟩, by decide,
    by decide⟩

theorem witness_JobCommandsAreQueued :
    let s := inFrame (engineIn .armed j4)
    s.engineListens ∧ s.engine.exclusive = none ∧ s.engine.state = .armed ∧ (16 : Byte).toNat ≤ 16 ∧
    (∀ m, Job.release m ∉ s.engine.jobs) ∧ (255 : BitVec 16).toNat < s.engine.slots ∧ (∀ m, Job.peek m ∉ s.engine.jobs) ∧
    (∀ m r, ¬ s.working (.peek m r)) :=
  ⟨⟨⟨rfl, rfl⟩, rfl, rfl⟩, rfl, rfl, by decide, fun _ => List.not_mem_nil, by decide, fun _ => List.not_mem_nil, by
    rintro m r ⟨x, h⟩
    cases h⟩

theorem witness_RollbackFixesItsTarget :
    (∀ x j, (hostBusy x j).engineListens ∧ (hostBusy x j).engineFree ∧ ¬ (hostBusy x j).hostReleases) ∧
    1 ≤ (1 : Byte).toNat ∧ (2 : Byte).toNat ≤ j4.marks.length ∧ j4.marks[2 - (2 : Byte).toNat]? = some ⟨0, 1, 1, 2, 0⟩ ∧
    (hostBusy .armed j4).engine.state = .armed ∧ (hostBusy .armed j4).engine.journal.lapsed = false ∧
    (hostBusy .disarmed j4).engine.state = .disarmed ∧ (hostBusy .disarmed j4).engine.journal.fill ≠ 0 :=
  ⟨fun x j => ⟨hostBusy_listens x j, hostBusy_free x j, hostBusy_releases_nothing x j⟩, by decide, by decide, rfl, rfl, rfl, rfl,
    by decide⟩

theorem witness_FormatIsTaken :
    (∀ x ∈ [EngineState.unformatted, .disarmed, .broken], (hostBusy x j0).engine.state = x) ∧
    (∀ x, (hostBusy x j0).engineListens ∧ (hostBusy x j0).engineFree) ∧
    32 * (256 * 2 ^ (5 : Fin 8).val) ≤ (hostBusy .broken j0).memorySize / 4 :=
  ⟨fun _ _ => rfl, fun x => ⟨hostBusy_listens x j0, hostBusy_free x j0⟩, by decide⟩

/-- All nine fields named; then one form each check refuses, at the first value beyond its range. -/
theorem witness_TableWriteStagesTheNamedFields :
    let f : TableFields := ⟨1, 0x0FFF00, 0x0FFF00, 2, 2, 2, 1, 5, 6⟩
    let c : RegionConfig := ⟨true, 0x0FFF00, 0x0FFF00, .locked, .undo, 5, .mark, true⟩
    let s := inFrame State.reset
    (s.serving ∧ s.control.halted = false ∧ (0x1FF : BitVec 16).toNat < 2 ^ 9 ∧ f.enabled.toNat = c.enabled.toNat ∧
      f.mode.toNat = c.mode.code ∧ f.target.toNat = c.target.code ∧ f.action.toNat = c.compareAction.code ∧
      f.ring.toNat = c.ring.toNat ∧ c.base.toNat % 256 = 0 ∧ c.limit.toNat % 256 = 0 ∧ c.base.toNat ≤ c.limit.toNat ∧
      c.limit.toNat + 256 ≤ s.memorySize) ∧
    (11 < (12 : Byte).toNat ∧ 2 ^ 9 ≤ (0x200 : BitVec 16).toNat ∧ 1 < (2 : Byte).toNat ∧ 2 < (3 : Byte).toNat) ∧
    ((0x80 : Addr).toNat % 256 ≠ 0 ∧ (0x100 : Addr).toNat < (0x200 : Addr).toNat ∧
      s.memorySize < (0x100000 : Addr).toNat + 256) :=
  ⟨⟨⟨rfl, rfl⟩, rfl, by decide, by decide, by decide, by decide, by decide, by decide, by decide, by decide, by decide,
    by decide⟩, by decide, by decide⟩

theorem witness_InstallCopiesThePendingSettings :
    let s := after .frameEnd (after (.tableWrite 11 0x100 ⟨0, 0, 0, 0, 0, 0, 0, 0, 5⟩) (inFrame (engineIn .disarmed j4)))
    (inFrame s).serving ∧ (inFrame s).control.halted = false ∧ (inFrame s).engine.state = .disarmed ∧
    (inFrame s).regions.staged[11].installs = true ∧ (inFrame s).regions.staged[10].installs = false :=
  ⟨⟨rfl, rfl⟩, rfl, rfl, by decide, by decide⟩

theorem witness_RestartBecomesPending :
    (inFrame (haltedPart State.reset)).serving ∧ (haltedPart State.reset).control.pfail = true ∧
    (restarting State.reset).control.restartPending = true ∧ (restarting State.reset).control.pfail = false ∧
    (let c := word .write .waiting none
     let s := inFrame (hosting c (engineIn .armed j4))
     s.serving ∧ s.control.pfail = false ∧ s.control.restartPending = false ∧ s.host.current = some c ∧ c.waits) ∧
    (∀ c, State.reset.host.current = some c → c.phase = .granted) :=
  ⟨⟨rfl, rfl⟩, rfl, rfl, rfl, ⟨⟨rfl, rfl⟩, rfl, rfl, rfl, .inl rfl⟩, fun _ h => nomatch h⟩

theorem witness_OfferIsCapturedByTheSlotsThatTakeIt :
    let c : CaptureSlot := ⟨.every, .active, .compare, some 3, true, 255, none⟩
    let o : Offer := { cause := .compare, region := some 3 }
    let p : Offer := { cause := .compare, region := some 4 }
    (c.phase = .active ∧ c.cause = o.cause ∧ (c.filter = none ∨ c.filter = o.region) ∧ c.mode ≠ .off) ∧
    ¬ (c.phase = .active ∧ c.cause = p.cause ∧ (c.filter = none ∨ c.filter = p.region)) := by decide

theorem witness_MarkRequestByEngineState : (engineIn .armed j4).engine.state = .armed ∧
    (rolling (record .armed .restore) j4).engine.state = .rolling ∧
    (engineIn .broken j0).engine.state ≠ .armed ∧ (engineIn .broken j0).engine.state ≠ .rolling := by decide

theorem witness_RegionsResolveAndCount :
    (let e := (comparing .mark true (engineIn .armed j4)).regions.active[3]
     e.config.enabled = true ∧ e.config.base.toNat ≤ 255 ∧ 255 ≤ e.config.limit.toNat + 255 ∧
       e.config.compareAction ≠ .none ∧ e.config.compareValue = e.counter + 1) ∧
    (∀ j : Fin 12, j < 3 → (comparing .mark true (engineIn .armed j4)).regions.active[j].config.enabled = false) ∧
    (∀ j : Fin 12, State.reset.regions.active[j].config.enabled = false) ∧
    (counting .undo (engineIn .armed j4)).regions.active[3].config.compareAction = .none := by decide

/-- The last address that is in data space, with the port IDLE; a busy port; a request presented behind the word answered,
alone and before another. -/
theorem witness_HostAccessAsksOrIsHeld :
    (let s := engineIn .armed j4
     let ws : List HostWord := [⟨1, 0⟩, ⟨0, 0⟩]
     s.control.resetHeld = false ∧ s.host.current = none ∧ s.host.presented = [] ∧ requestWellFormed 0x0FDFBC ws = true ∧
       s.control.halted = false ∧ s.engine.state ≠ .halted ∧ (0x0FDFBC : Addr).toNat < s.dataSpaceEnd ∧
       (∀ w, ws.head? = some w → w.lanes ≠ 0) ∧ State.reset.engine.inRecovery = true) ∧
    (∀ more, let r : HostRequest := ⟨.read, 0x2000, [⟨0xF, 0⟩]⟩
      let s := presenting (r :: more) (hosting (grantedWord .pass) (engineIn .armed j4))
      s.control.resetHeld = false ∧ requestWellFormed r.address r.words = true ∧ s.host.current ≠ none ∧
        s.host.presented = ⟨.read, 0x2000, [⟨0xF, 0⟩]⟩ :: more) ∧
    (answerWord (.done none) (hosting (grantedWord .pass) (engineIn .armed j4))).host.current = none ∧
    (answerWord (.done none) (hosting { grantedWord .pass with words := [⟨0xF, 1⟩, ⟨0xF, 2⟩] }
      (engineIn .armed j4))).host.current.isSome = true :=
  ⟨⟨rfl, rfl, rfl, by decide, rfl, by decide, by decide, fun w h => by cases h; decide, rfl⟩,
    fun _ => ⟨rfl, by decide, nofun, rfl⟩, by decide, by decide⟩

/-- Reads and writes alike: nothing in the hypotheses names the kind but the last clause. -/
theorem witness_EntryChecksAnswerAtOnce :
    let s := engineIn .armed j4
    s.control.resetHeld = false ∧ s.host.current = none ∧ s.host.presented = [] ∧
    requestWellFormed 0x0FDFC0 [⟨0xF, 0⟩] = true ∧ s.dataSpaceEnd ≤ (0x0FDFC0 : Addr).toNat ∧
    ¬ (s.control.halted = true ∨ s.engine.state = .halted) ∧ (haltedPart s).control.halted = true ∧
    (haltedPart s).host.current = none ∧ (haltedPart s).host.presented = [] ∧
    (0x0FDFB8 : Addr).toNat + 4 * 2 ≤ s.dataSpaceEnd ∧ (∀ w ∈ [(⟨0, 1⟩ : HostWord), ⟨0, 2⟩], w.lanes = 0) := by decide

theorem witness_GrantedReadIsForwardedOrHeld :
    (waitingIn .read .broken j0 .journal).grantsHost = true ∧
    (waitingIn .read .broken j0 .journal).host.current = some (word .read .waiting none) ∧
    (waitingIn .read .broken j0 .journal).engine.state ≠ .rolling ∧
    (let s := waitingRolling .read .locked
     s.grantsHost = true ∧ (s.regions.resolve 0x1000).mode ≠ .pass ∧ s.engine.state = .rolling ∧
       1999 < s.settings.holdLimit) := by decide

theorem witness_GrantedWriteByStateAndMode :
    (waitingIn .write .armed j7 .pass).grantsHost = true ∧
    (waitingIn .write .armed j7 .pass).host.current = some (word .write .waiting none) ∧
    ((waitingIn .write .armed j7 .pass).regions.resolve 0x1000).mode = .pass ∧
    (waitingIn .write .disarmed j0 .journal).grantsHost = true ∧
    (waitingIn .write .disarmed j4 .journal).grantsHost = true ∧ j4.fill ≠ 0 ∧
    (let s := waitingIn .write .armed { j7 with fill := 254 } .journal
     s.grantsHost = true ∧ (s.regions.resolve 0x1000).mode = .journal ∧ 0x1000 ∉ s.engine.journal.touched ∧
       2 ≤ s.engine.slots - s.engine.journal.fill) ∧
    (let s := waitingRolling .write .journal
     s.grantsHost = true ∧ (s.regions.resolve 0x1000).mode = .journal ∧ s.engine.state = .rolling ∧
       1999 < s.settings.holdLimit) := by decide

theorem witness_GrantedWriteRefused :
    (let s := waitingIn .write .armed j7 .locked
     s.grantsHost = true ∧ s.host.current = some (word .write .waiting none) ∧ (s.regions.resolve 0x1000).mode = .locked) ∧
    (let s := waitingIn .write .broken j0 .journal
     s.grantsHost = true ∧ (s.regions.resolve 0x1000).mode = .journal ∧ s.engine.state = .broken) ∧
    (let s := policy .refuse (waitingIn .write .armed j7 .journal)
     s.grantsHost = true ∧ (s.regions.resolve 0x1000).mode = .journal ∧ s.engine.slots - s.engine.journal.fill < 2 ∧
       s.engine.journal.lapsed = false ∧ 0x1000 ∉ s.engine.journal.touched ∧ s.settings.fullPolicy = .refuse) := by decide

theorem witness_FullPolicyDecides :
    (∀ p, let s := policy p (waitingIn .write .armed j7 .journal)
      s.grantsHost = true ∧ s.host.current = some (word .write .waiting none) ∧
      (s.regions.resolve 0x1000).mode = .journal ∧ s.engine.state = .armed ∧ s.engine.journal.lapsed = false ∧
      0x1000 ∉ s.engine.journal.touched ∧ s.engine.slots - s.engine.journal.fill < 2 ∧ s.settings.fullPolicy = p ∧
      0 < s.settings.holdLimit) ∧
    ({ j7 with marks := j7.marks.tail } : Journal).marks.length < 2 := by
  refine ⟨fun p => ?_, by decide⟩
  cases p <;> decide

/-- A held word at the limit and one below it; the limit 0; a granted word. -/
theorem witness_HoldExpiryAnswersTheWord :
    (let c := word .read .held (some 2000)
     let s := hosting c (engineIn .armed j4)
     s.host.current = some c ∧ c.hold = some 2000 ∧ c.waits ∧ s.settings.holdLimit ≠ 0 ∧ s.settings.holdLimit ≤ 2000 ∧
       s.host.presented = []) ∧
    (let s := hosting (word .write .waiting (some 1999)) (engineIn .armed j4)
     s.host.current.bind (·.hold) = some 1999 ∧ 1999 < s.settings.holdLimit) ∧
    ({ coldSettings with holdLimit := 0 } : Settings).holdLimit = 0 ∧
    (word .read .granted (some 2000)).phase = .granted ∧ (word .read .granted (some 2000)).hold = some 2000 :=
  ⟨⟨rfl, rfl, .inr rfl, by decide, by decide, rfl⟩, ⟨rfl, by decide⟩, rfl, rfl, rfl⟩

/-- A timer at 0 in each mode and one not yet there; a candidate one short of the filter and one at it; no candidate, with and
without a filter. -/
theorem witness_TimersAndLineMakeRequests :
    (∀ m : TimerMode, let s : State := { State.reset with
        settings := { coldSettings with timerMode := m }
        sources := ⟨0, false, none, some 0, 0⟩ }
      s.sources.timer = some 0 ∧ s.settings.timerMode = m) ∧
    State.reset.sources.timer ≠ some 0 ∧
    (let s (n : Nat) : State := { State.reset with
        settings := { coldSettings with lineFilter := .us50, lineEdge := .fall }
        sources := ⟨0, true, some n, none, 0⟩ }
     (s 49).sources.candidate = some 49 ∧ 49 < (s 49).settings.lineFilter.micros ∧ (s 49).control.resetHeld = false ∧
       (s 50).sources.candidate = some 50 ∧ (s 50).settings.lineFilter.micros ≤ 50 ∧
       (s 50).settings.lineFilter ≠ .zero ∧ (s 50).settings.lineEdge = .fall ∧ (s 50).sources.level = true) ∧
    State.reset.sources.candidate = none ∧ State.reset.control.resetHeld = false ∧
    State.reset.settings.lineFilter = .zero ∧ ({ coldSettings with lineFilter := .ms1 } : Settings).lineFilter ≠ .zero :=
  ⟨fun _ => ⟨rfl, rfl⟩, by decide, by decide, by decide⟩

theorem witness_MarkTakeBeginsTheMark :
    (withQueue [.mark] (engineIn .broken j0)).grantsEngine .markTake = true ∧
    (withQueue [.mark] (engineIn .broken j0)).engine.state ≠ .armed ∧
    (let s := withQueue [.mark] (engineIn .armed j7)
     s.grantsEngine .markTake = true ∧ s.engine.state = .armed ∧
       ¬ (s.engine.slots - s.engine.journal.fill = 0 ∨ 16 ≤ s.engine.journal.marks.length)) ∧
    (let s := withQueue [.mark] (engineIn .armed j11)
     s.grantsEngine .markTake = true ∧ s.engine.state = .armed ∧ s.engine.slots - s.engine.journal.fill = 0 ∧
       s.engine.journal.marks = [⟨4, 5, 2, 1, 0⟩, ⟨3, 260, 3, 1, 0⟩]) := by decide

theorem witness_ArmingAndDisarmingBegin :
    (∀ j ∈ [j0, j11], (exclusively (.arm .revert) (engineIn .disarmed j)).grantsEngine .arming = true) ∧
    (exclusively (.arm .keep) (engineIn .broken j0)).grantsEngine .arming = true ∧
    (256 : Nat) - j0.fill ≠ 0 ∧ j0.marks.length < 16 ∧ j11.fill = 256 ∧
    (∀ j ∈ [j0, j4, { j0 with lapsed := true }],
      (exclusively .disarm (engineIn .armed j)).grantsEngine .disarming = true) ∧
    (exclusively .disarm (engineIn .broken j0)).grantsEngine .disarming = true := by decide

theorem witness_ReleaseDiscardAndPeekBegin :
    (∀ x ∈ [EngineState.broken, .disarmed, .armed],
      (withQueue [.release 16] (engineIn x j4)).grantsEngine .release = true) ∧
    min 16 (j4.marks.length - 1) ≠ 0 ∧ min 16 (jOne.marks.length - 1) = 0 ∧
    (∀ x ∈ [EngineState.broken, .disarmed], ∀ j ∈ [j0, j4],
      (exclusively .discard (engineIn x j)).grantsEngine .discard = true ∧
        (exclusively .discard (engineIn x j)).engine.markPending = 0) ∧
    (withQueue [.peek 255] (engineIn .broken j0)).grantsEngine .peek = true := by decide

theorem witness_RollbackTenanciesBegin :
    (rolling (record .disarmed .freeze) j4).grantsEngine .rollbackAnchor = true ∧
    (rolling (record .armed .restore) j4).grantsEngine .restoreStep = true ∧
    (rolling (record .recovery .settle) j4).grantsEngine .settle = true ∧ (0 + 1) % 256 ≠ j4.head ∧
    (rolling { record .armed .settle with targetSlot := 3 } j11).grantsEngine .settle = true ∧ (3 + 1) % 256 = j11.head ∧
    j4.marks = ⟨0, 1, 1, 2, 0⟩ :: [⟨4, 5, 2, 1, 0⟩] := by decide

theorem witness_FormatAndRecoveryTenanciesBegin :
    (∀ p, ∃ r, (exclusively (.format p) (engineIn .formatting j0)).grantsEngine r = true) ∧
    (exclusively (.format (.slot 255)) (engineIn .formatting j0)).grantsEngine .formatSlot = true ∧
    (recovering .copyA).grantsEngine .recoveryRead = true ∧
    (recovering (.copyB .unreadable)).grantsEngine .recoveryRead = true ∧
    (recovering (.scan (copyOf .opened 1) 255)).grantsEngine .scan = true := by
  refine ⟨fun p => ?_, by decide, by decide, by decide, by decide⟩
  rcases p with _ | n | _
  · exact ⟨.formatAnchors, rfl⟩
  · exact ⟨.formatSlot, rfl⟩
  · exact ⟨.formatFinal, rfl⟩

theorem witness_ArbiterAlternates :
    (∀ x, let s := withQueue [.mark] (waitingIn .read .armed j4 .journal)
      let u := { s with port := ⟨none, x⟩ }
      u.port.tenancy = none ∧ u.engineRequest = some .markTake ∧ u.hostRequest = true ∧ u.port.lastSide = x) ∧
    (let s := withQueue [.mark] (engineIn .armed j4)
     s.port.tenancy = none ∧ s.engineRequest = some .markTake ∧ s.hostRequest = false) ∧
    (let s := waitingIn .read .armed j4 .journal
     s.port.tenancy = none ∧ s.engineRequest = none ∧ s.hostRequest = true) ∧
    (let c := word .read .waiting (some 2000)
     let s := hosting c (engineIn .armed j4)
     s.host.current = some c ∧ c.hold = some 2000 ∧ s.settings.holdLimit ≠ 0 ∧ s.settings.holdLimit ≤ 2000) ∧
    State.reset.engine.inRecovery = true ∧ (atWrite .discard State.reset).port.tenancy ≠ none :=
  ⟨fun _ => ⟨rfl, rfl, rfl, rfl⟩, by decide, by decide, by decide, rfl, nofun⟩

theorem witness_NextAccessIsIssued :
    ({ State.reset with port := ⟨some ⟨.readCopyA, .read 0x0FFFC0 7 []⟩, .engine⟩ } : State).port.tenancy =
      some ⟨.readCopyA, .read 0x0FFFC0 (6 + 1) []⟩ ∧
    ({ State.reset with port := ⟨some ⟨.discard, .write 0x0FFFC0 0xF 1 [2]⟩, .engine⟩ } : State).port.tenancy =
      some ⟨.discard, .write 0x0FFFC0 0xF 1 (2 :: [])⟩ := ⟨rfl, rfl⟩

/-- A counting read and a counting write, the write with a match of each action; a journal write while ARMED in QUIET; each of
the four accesses that may fail. -/
theorem witness_ForwardedWordIsAnswered :
    (let c := { word .read .granted none with grant := some ⟨.pass, some 3⟩ }
     let s := atRead .hostRead [] (counting .reads (hosting c (engineIn .armed j4)))
     s.host.current = some c ∧ c.position + 1 = c.words.length ∧ s.host.presented = [] ∧ c.kind = .read ∧
       s.lastRead .hostRead [] ∧ s.regions.active[3].config.enabled = true ∧ s.regions.active[3].config.target = .reads) ∧
    (∀ a ring, let s := atWrite .hostWrite (comparing a ring (hosting regionWord (engineIn .armed j4)))
      s.host.current = some regionWord ∧ s.lastWrite .hostWrite ∧ regionWord.kind = .write ∧
        regionWord.position < regionWord.words.length) ∧
    (∀ ring, ∀ a ∈ [CompareAction.event, .mark], let e := (comparing a ring (engineIn .armed j4)).regions.active[3]
      e.config.enabled = true ∧ e.config.target = .writes ∧ e.config.compareAction ≠ .none ∧
        e.config.compareValue = e.counter + 1) ∧
    (let s := atWrite .hostWrite (hosting (grantedWord .journal) { engineIn .armed j4 with
        settings := { coldSettings with timerMode := .quiet } })
     s.host.current = some (grantedWord .journal) ∧ s.lastWrite .hostWrite ∧
       (grantedWord .journal).grant.map (·.mode) = some .journal ∧ s.engine.state = .armed ∧
       s.settings.timerMode = .quiet) ∧
    (∀ s, (atRead .hostRead [] s).working .hostRead ∧ (atWrite .hostWrite s).working .hostWrite ∧
      (atRead .hostOldValue [] s).working .hostOldValue ∧ (atWrite .hostUndo s).working .hostUndo) :=
  ⟨⟨rfl, by decide, rfl, rfl, atRead_last _ _ _, by decide, by decide⟩,
    fun _ _ => ⟨rfl, atWrite_last _ _, rfl, by decide⟩, by decide,
    ⟨rfl, atWrite_last _ _, rfl, rfl, rfl⟩,
    fun _ => ⟨atRead_working _ _ _, atWrite_working _ _, atRead_working _ _ _, atWrite_working _ _⟩⟩

/-- The append that crosses the watermark, one past it, and one that fills the touched set's last place. -/
theorem witness_UndoAppendAdvancesTheJournal :
    (let s := atRead .hostOldValue [] (hosting regionWord (engineIn .armed j4))
     s.host.current = some regionWord ∧ s.lastRead .hostOldValue []) ∧
    (∀ n, let s := atWrite .hostUndo (counting .undo (hosting regionWord (engineIn .armed { j7 with tail := n, fill := n })))
      s.host.current = some regionWord ∧ s.lastWrite .hostUndo ∧ s.settings = coldSettings ∧ s.engine.slots = 256 ∧
        s.engine.journal.fill = n) ∧
    (coldSettings.watermark ≠ 0 ∧ 191 < coldSettings.watermark * 256 / 8 ∧ coldSettings.watermark * 256 / 8 ≤ 191 + 1 ∧
      ¬ 192 < coldSettings.watermark * 256 / 8 ∧
      (counting .undo (engineIn .armed j7)).regions.active[3].config.target = .undo) ∧
    ({ j4 with touched := List.range 63 } : Journal).touched.length < 64 ∧
    ¬ ({ j4 with touched := List.range 64 } : Journal).touched.length < 64 :=
  ⟨⟨rfl, atRead_last _ _ _⟩,
    fun _ => ⟨rfl, atWrite_last _ _, rfl, rfl, rfl⟩, by decide, by decide, by decide⟩

/-- A MARK write in a LAPSED engine and in one that is not, crossing the watermark; the list within its limit and beyond it,
after the append and after the LAPSED end. -/
theorem witness_MarkIsTaken :
    (∀ j k, (atWrite (.markAppend 1 k 0) (engineIn .armed j)).lastWrite (.markAppend 1 k 0)) ∧
    (let j : Journal := { j0 with lapsed := true }
     j.lapsed = true ∧ (j.marks ++ [(⟨0, 1, 1, 1, 0⟩ : MarkElement)])[0]? = some ⟨0, 1, 1, 1, 0⟩) ∧
    (let m := j4.marks ++ [(⟨5, 6, 3, 1, 0⟩ : MarkElement)]
     j4.lapsed = false ∧ m.length ≤ 3 ∧ 2 < m.length ∧ m[m.length - 2]? = some ⟨4, 5, 2, 1, 0⟩) ∧
    (let s := engineIn .armed { j4 with fill := 191 }
     s.settings.watermark ≠ 0 ∧ s.engine.journal.fill < s.settings.watermark * s.engine.slots / 8 ∧
       s.settings.watermark * s.engine.slots / 8 ≤ s.engine.journal.fill + 1) ∧
    (∀ k, (atWrite (.markLapseEnd 1 k) (engineIn .armed { j4 with lapsed := true })).lastWrite (.markLapseEnd 1 k)) ∧
    (j4.marks.length ≤ 2 ∧ 1 < j4.marks.length ∧ j4.marks[j4.marks.length - 1]? = some ⟨4, 5, 2, 1, 0⟩) ∧
    (atWrite (.markAppend 1 4 0) (engineIn .armed j4)).working (.markAppend 1 4 0) :=
  ⟨fun _ _ => atWrite_last _ _, ⟨rfl, rfl⟩, by decide, by decide, fun _ => atWrite_last _ _, by decide, atWrite_working _ _⟩

/-- Each release anchor's last write on a journal with a second mark; a RELEASE-policy word whose release leaves free 2, or
leaves it 1 in ROLLING below its hold limit and at it, and in ARMED with a second mark and without; then the FRESH writes. -/
theorem witness_ReleaseMovesTheHead :
    (∀ w, (atWrite w (engineIn .armed j4)).lastWrite w ∧ (engineIn .armed j4).engine.journal.marks[1]? = some ⟨4, 5, 2, 1, 0⟩) ∧
    (∀ x j h, let c := { grantedWord .journal with hold := h }
      let s := atWrite .hostRelease (hosting c (engineIn x j))
      s.host.current = some c ∧ c.phase = .granted ∧ s.lastWrite .hostRelease ∧ s.engine.state = x ∧
        s.engine.journal = j) ∧
    (let left (j : Journal) (m : MarkElement) : Nat :=
       (256 : Nat) - ((engineIn .armed j).released 1 m).engine.journal.fill
     let two : Journal := { j4 with tail := 3, fill := 256, marks := [⟨4, 5, 2, 1, 0⟩, ⟨5, 6, 3, 1, 0⟩], head := 4 }
     2 ≤ left j7 ⟨4, 5, 2, 1, 0⟩ ∧ left two ⟨5, 6, 3, 1, 0⟩ < 2 ∧ two.marks[1]? = some ⟨5, 6, 3, 1, 0⟩ ∧
       ((engineIn .armed two).released 1 ⟨5, 6, 3, 1, 0⟩).engine.journal.marks.length < 2 ∧
       ((engineIn .armed { two with marks := two.marks ++ [⟨9, 10, 4, 1, 0⟩] }).released 1
         ⟨5, 6, 3, 1, 0⟩).engine.journal.marks[1]? = some ⟨9, 10, 4, 1, 0⟩) ∧
    ((none : Option Nat).getD 0 < coldSettings.holdLimit ∧ coldSettings.holdLimit ≠ 0 ∧
      coldSettings.holdLimit ≤ (some 2000).getD 0) ∧
    ((atWrite .discard (engineIn .disarmed j4)).lastWrite .discard ∧ (engineIn .disarmed j4).engine.markPending = 0) ∧
    (∀ w x j, let s := atWrite w (hosting (grantedWord .journal) (engineIn x j))
      s.host.current = some (grantedWord .journal) ∧ (grantedWord .journal).phase = .granted ∧ s.lastWrite w) :=
  ⟨fun _ => ⟨atWrite_last _ _, rfl⟩, fun _ _ _ => ⟨rfl, rfl, atWrite_last _ _, rfl, rfl⟩, by decide, by decide,
    ⟨atWrite_last _ _, rfl⟩, fun _ _ _ => ⟨rfl, rfl, atWrite_last _ _⟩⟩

/-- Every such anchor write, with the pending set empty and not; a host tenancy's with its word. -/
theorem witness_FailedAnchorWriteBreaksTheEngine :
    (∀ w ∈ [Work.markRoom 1 4, .markLapseEnd 1 4, .markLimit 1 1, .armRoom .keep 4, .armAnchor .keep 0, .disarm true, .discard,
      .release 1], w.writesAnchor = true ∧ w.ofHost = false) ∧
    (∀ w x, let s := atWrite w { engineIn .armed j4 with engine := { (engineIn .armed j4).engine with markPending := x } }
      s.working w ∧ s.engine.markPending = x) ∧
    (let s := atWrite .hostRelease (hosting (grantedWord .journal) (engineIn .armed j7))
     s.working .hostRelease ∧ Work.writesAnchor .hostRelease = true ∧ Work.ofHost .hostRelease = true ∧
       s.host.current = some (grantedWord .journal)) :=
  ⟨by decide, fun _ _ => ⟨⟨_, rfl⟩, rfl⟩, ⟨_, rfl⟩, rfl, rfl, rfl⟩

/-- The arming's and the disarming's last writes with the pending set empty and not; the arming's append crossing the
watermark. -/
theorem witness_ArmingAndDisarmingComplete :
    (∀ x, let pending (s : State) : State := { s with engine := { s.engine with markPending := x } }
      (pending (atWrite (.armAnchor .revert 1) (engineIn .disarmed j4))).lastWrite (.armAnchor .revert 1) ∧
      (∀ b, (pending (atWrite (.disarm b) (engineIn .armed j4))).lastWrite (.disarm b)) ∧
      (∀ y, (pending (atWrite (.armAppend .keep 4 0) (engineIn y j0))).working (.armAppend .keep 4 0)) ∧
      (pending (engineIn .armed j4)).engine.markPending = x) ∧
    j4.marks[1]? = some ⟨4, 5, 2, 1, 0⟩ ∧ j4.marks[0]? = some ⟨0, 1, 1, 2, 0⟩ ∧
    ((atWrite (.armAppend .keep 4 0) (engineIn .disarmed j0)).lastWrite (.armAppend .keep 4 0) ∧
      ([(⟨0, 1, 1, 2, 0⟩ : MarkElement)])[1 - 4]? = some ⟨0, 1, 1, 2, 0⟩) ∧
    (let s := engineIn .disarmed { j4 with fill := 191 }
     s.settings.watermark ≠ 0 ∧ s.engine.journal.fill < s.settings.watermark * s.engine.slots / 8 ∧
       s.settings.watermark * s.engine.slots / 8 ≤ s.engine.journal.fill + 1) :=
  ⟨fun _ => ⟨⟨_, _, _, rfl⟩, fun _ => ⟨_, _, _, rfl⟩, fun _ => ⟨_, rfl⟩, rfl⟩, rfl, rfl, ⟨atWrite_last _ _, rfl⟩, by decide⟩

/-- An UNDO and a MARK that pass every check, each with the steps before the last and the last; an UNDO off its word boundary,
one beyond data space, and a MARK where no mark is; a slot that holds no entry; each access that may fail. -/
theorem witness_RestoreStepsWalkDown :
    let r : RollbackRecord := { record .armed .restore with position := 3, expected := 4 }
    let s := rolling r j4
    let q : RollbackRecord := record .armed .restore
    let mark4 : Entry := ⟨.mark, 5, 4, 2, 1, 2, 0⟩
    (s.engine.rollback = some r ∧ (∀ w, (atWrite w s).lastWrite w ∧ (atWrite w s).working w) ∧
      ∀ got, (atRead .restoreRead got s).lastRead .restoreRead got ∧ (atRead .restoreRead got s).working .restoreRead) ∧
    (parseEntry (readBack undo3.body) = some undo3 ∧ undo3.kind = .undo ∧ undo3.sequence = r.expected ∧
      (∀ m ∈ j4.marks, m.slot ≠ r.position) ∧ undo3.third.toNat % 4 = 0 ∧ undo3.third.toNat < s.dataSpaceEnd ∧
      (j4.marks = [] ++ ⟨0, 1, 1, 2, 0⟩ :: [⟨4, 5, 2, 1, 0⟩] ∧ slotsFrom 256 j4.head 0 ≤ slotsFrom 256 j4.head r.position ∧
        (∀ x ∈ [(⟨4, 5, 2, 1, 0⟩ : MarkElement)], slotsFrom 256 j4.head r.position < slotsFrom 256 j4.head x.slot) ∧
        undo3.epoch = 1) ∧ s.engine.steps ≠ 1) ∧
    (parseEntry (readBack mark4.body) = some mark4 ∧ mark4.sequence = q.expected ∧ mark4.third = mark4.epoch ∧
      j4.marks = [⟨0, 1, 1, 2, 0⟩] ++ ⟨4, 5, 2, 1, 0⟩ :: [] ∧ q.position = 4 ∧ mark4.epoch = 2) ∧
    (({ undo3 with third := 0x1002 } : Entry).third.toNat % 4 ≠ 0 ∧
      s.dataSpaceEnd ≤ ({ undo3 with third := 0x0FDFC0 } : Entry).third.toNat ∧
      parseEntry (List.replicate 7 0 ++ [0]) = none) :=
  ⟨⟨rfl, fun _ => ⟨atWrite_last _ _, atWrite_working _ _⟩, fun _ => ⟨atRead_last _ _ _, atRead_working _ _ _⟩⟩,
    by decide +kernel, by decide +kernel, by decide +kernel⟩

/-- Every origin, with the settle anchor's and the BROKEN anchor's last write; for recovery's, a word held within data space and
one beyond it. -/
theorem witness_RollbackSettlesOrBreaks :
    (∀ o w, let r := record o .settle
      let s := atWrite w (rolling r j4)
      s.engine.rollback = some r ∧ s.engine.markPending = 0 ∧ s.lastWrite w ∧ s.working w ∧ r.origin = o ∧ r.targetSlot = 0 ∧
        j4.marks = [] ++ ⟨0, 1, 1, 2, 0⟩ :: [⟨4, 5, 2, 1, 0⟩]) ∧
    (∀ a : Addr, let c := { word .read .held (some 3) with address := a }
      (hosting c (rolling (record .recovery .settle) j4)).host.current = some c ∧ c.phase = .held ∧
        c.wordAddress = a.toNat) ∧
    (0x1000 : Addr).toNat < (rolling (record .recovery .settle) j4).dataSpaceEnd ∧
    (rolling (record .recovery .settle) j4).dataSpaceEnd ≤ (0x0FDFC0 : Addr).toNat :=
  ⟨fun _ _ => ⟨rfl, rfl, atWrite_last _ _, atWrite_working _ _, rfl, rfl, rfl⟩, fun _ => ⟨rfl, rfl, rfl⟩, by decide, by decide⟩

theorem witness_FormatAndPeekComplete :
    let s := exclusively (.format (.slot 255)) (engineIn .formatting j0)
    (∀ w, (atWrite w s).lastWrite w ∧ (atWrite w s).working w) ∧ s.engine.markPending = 0 ∧ ¬ 255 + 1 < s.engine.slots ∧
    (atRead (.peek 0 true) [] s).lastRead (.peek 0 true) [] ∧ (atRead (.peek 0 true) [] s).working (.peek 0 true) :=
  ⟨fun _ => ⟨atWrite_last _ _, atWrite_working _ _⟩, rfl, by decide, atRead_last _ _ _, atRead_working _ _ _⟩

/-- Copy B read after each reading of copy A, as a valid copy of each state and as none; a copy read with an ERROR; a word held
as recovery ends. -/
theorem witness_RecoveryChoosesTheAnchor :
    let f : AnchorCopy := copyOf .opened 2
    (∀ a got, (atRead (.readCopyB a) got (recovering (.copyB a))).lastRead (.readCopyB a) got ∧
      (atRead (.readCopyB a) got (recovering (.copyB a))).working (.readCopyB a)) ∧
    ((atRead .readCopyA [] (recovering .copyA)).lastRead .readCopyA [] ∧
      (atRead .readCopyA [] (recovering .copyA)).working .readCopyA) ∧
    (∀ st ∈ [AnchorState.fresh, .opened, .idle, .rolling, .broken],
      readingOf (recovering .copyA) (readBack (copyOf st 2).body) = .valid (copyOf st 2)) ∧
    (readingOf (recovering .copyA) (List.replicate 7 0 ++ [0]) = .invalid ∧ later f.generation 1 = true ∧
      later f.generation 3 = false ∧ later f.generation 2 = false) ∧
    (hosting (word .read .held (some 3)) (recovering .copyA)).host.current = some (word .read .held (some 3)) ∧
    (∀ c, (recovering .copyA).host.current = some c → c.phase ≠ .held) :=
  ⟨fun _ _ => ⟨atRead_last _ _ _, atRead_working _ _ _⟩, ⟨atRead_last _ _ _, atRead_working _ _ _⟩, by decide +kernel,
    by decide +kernel, rfl, fun _ h => nomatch h⟩

/-- Each kind of slot the scan may meet: the head's MARK, a following UNDO and MARK, the S-th entry, the VOID that ends it, and a
slot with no entry; each anchor that leads to a scan, the ROLLING one with its target found, without steps, and not found. -/
theorem witness_ScanRebuildsTheJournal :
    let f := copyOf .opened 1
    let mark : Entry := ⟨.mark, 1, 0, 1, 2, 1, 0⟩
    let void : Entry := ⟨.void, 9, 5, 0, 0, 1, 0⟩
    let next : Entry := ⟨.undo, 6, 5, 0x1000, 0, 2, 0⟩
    let more : Entry := ⟨.mark, 6, 5, 3, 1, 3, 0⟩
    let scanning (f : AnchorCopy) (j : Journal) : State :=
      { recovering (.scan f 255) with engine := { coldEngine with geometry := some 0, journal := j, recovery := some (.scan f 255) } }
    (∀ f j got, (atRead (.scan f 255) got (scanning f j)).lastRead (.scan f 255) got ∧
      (atRead (.scan f 255) got (scanning f j)).working (.scan f 255)) ∧
    (parseEntry (readBack mark.body) = some mark ∧ mark.sequence = f.headSequence ∧ mark.third = mark.epoch ∧
      (scanning f j0).engine.journal.fill + 1 < (scanning f j0).engine.slots ∧ j0.fill = 0) ∧
    (parseEntry (readBack next.body) = some next ∧ next.link = j4.newestSequence ∧
      later next.sequence j4.newestSequence = true ∧ next.epoch = j4.epoch ∧ j4.fill ≠ 0) ∧
    (parseEntry (readBack more.body) = some more ∧ more.epoch = j4.epoch + 1 ∧ more.third = j4.epoch + 1 ∧
      j4.marks.length < 16) ∧
    256 ≤ ({ j4 with fill := 255 } : Journal).fill + 1 ∧
    (parseEntry (readBack void.body) = some void ∧ void.kind = .void ∧ void.link = j4.newestSequence ∧
      later void.sequence j4.newestSequence = true) ∧
    (parseEntry (List.replicate 8 0) = none ∧ f.state = .opened ∧ f.action = .keep ∧
      ({ f with action := .revert } : AnchorCopy).action = .revert ∧ j4.marks.getLast? = some ⟨4, 5, 2, 1, 0⟩) ∧
    (j4.marks = [⟨0, 1, 1, 2, 0⟩] ++ ⟨4, 5, 2, 1, 0⟩ :: [] ∧ slotsFrom 256 ((4 + 1) % 256) j4.tail = 0 ∧
      slotsFrom 256 ((0 + 1) % 256) j4.tail ≠ 0 ∧ ∀ m ∈ j4.marks, m.sequence ≠ 7) ∧
    (∀ c, (recovering .copyA).host.current = some c → c.phase ≠ .held) :=
  ⟨fun _ _ _ => ⟨atRead_last _ _ _, atRead_working _ _ _⟩, by decide +kernel, by decide +kernel, by decide +kernel,
    by decide +kernel, by decide +kernel, by decide +kernel, by decide +kernel, fun _ h => nomatch h⟩

/-- A state that meets every condition, with a word in the touched set and a host tenancy in progress. -/
theorem witness_EveryStepKeepsTheTouchedSet_TheHostWord_SettingsAndCaptures :
    let s := { atWrite .hostWrite (hosting (grantedWord .journal) (engineIn .armed j7)) with pending := [.memoryAnswer true 0] }
    TouchedSetOk s ∧ HostWordOk s ∧ SettingsOk s ∧ CapturesOk s ∧ ∃ t, step s = .next t := by
  refine ⟨⟨by decide, by decide, fun _ => ⟨rfl, rfl⟩, (by intro p h; cases h), ?_⟩,
    ⟨⟨fun _ => rfl, fun _ => ⟨_, rfl, rfl⟩⟩, ?_, fun _ => rfl⟩,
    by unfold SettingsOk; decide, ?_, _, rfl⟩
  · intro t h hw
    cases h
    exact nomatch hw
  · intro c h
    cases h
    exact ⟨by decide, by decide⟩
  · intro i
    match i with
    | 0 => (unfold CaptureSlot.Ok; decide)
    | 1 => (unfold CaptureSlot.Ok; decide)
    | 2 => (unfold CaptureSlot.Ok; decide)
    | 3 => (unfold CaptureSlot.Ok; decide)

theorem witness_FlagsStaySetUntilAcknowledged :
    hasFlag (after .pfailAssert State.reset).events.flags .powerFail = true ∧
    Instr.ackEvents 0x0FFFFFF ≠ .coldReset ∧ (0x0FFFFFF : Word).getLsbD Flag.powerFail.bit = false ∧
    (let s := after .pfailAssert State.reset
     s.pending.head? ≠ some .coldReset ∧ ∃ t, step s = .next t) ∧
    (let s := { State.reset with events := ⟨0, 0x1000000⟩ }
     let t := after .pfailAssert s
     s.attnLow = false ∧ t.attnLow = true ∧ (after (.ackEvents 0x1000000) (inFrame t)).attnLow = false) ∧
    (∀ i, ∃ t, exec i State.reset = .next t) :=
  ⟨by decide, by decide, by decide, ⟨nofun, _, rfl⟩, by decide, fun i => by cases i <;> exact ⟨_, rfl⟩⟩

theorem witness_FramesAndRecordsReadBack : commandFrame (.peek 511) = some (0x0E, [1, 0xFF]) ∧
    decodeFrame 0x0E [1, 0xFF] = some (.peek 511) ∧ decodeFrame 0x0E [1] = some (.frameUnknown 0x0E 1) ∧
    (List.replicate 255 (0 : Byte)).length ≤ 255 ∧
    sizeAllowed (copyOf .opened 1).memoryCode (copyOf .opened 1).sizeCode = true ∧
    (copyOf .opened 1).headSlot < slotCount (copyOf .opened 1).sizeCode ∧
    parseEntry (readBack undo3.body) = some undo3 ∧
    parseAnchor 0 (readBack (copyOf .opened 1).body) = some (copyOf .opened 1) := by decide +kernel

end Sys2Proof.Tests
end

section
/-!
SUPPORT. The terms of the statements tied to the model's operations: what a grant or memory's answer runs, an anchor write
issued, the host port told of a change, a release made.
-/
namespace Sys2Proof.Machine

/-! ## What a command runs -/

theorem exec_memoryAnswer (ok : Bool) (d : Word) (s : State) :
    exec (.memoryAnswer ok d) s = execMemoryAnswer ok d s := rfl

theorem exec_releaseJob (s : State) : exec .releaseJob s = execReleaseJob s := rfl

theorem exec_discardTenancy (s : State) : exec .discardTenancy s = execDiscardTenancy s := rfl

theorem exec_peekJob (s : State) : exec .peekJob s = execPeekJob s := rfl

/-! ## Grants and memory's answers -/

/-- A grant finds the port free (R118). -/
theorem tenancy_none_of_grantsEngine {r : Request} {s : State} (h : s.grantsEngine r = true) : s.port.tenancy = none := by
  simp only [State.grantsEngine, Bool.and_eq_true, Option.isNone_iff_eq_none] at h
  exact h.1.1

/-- A grant to the engine runs its tenancy's beginning with the port free and last granted to the engine (R118). -/
theorem onGrant_granted {r : Request} {s : State} (h : s.grantsEngine r = true) (work : State → State) :
    onGrant r work s = .next (work s.engineGranted) := by
  have hs : grantTo .engine s = s.engineGranted := by
    simp [grantTo, State.withPort, State.engineGranted, tenancy_none_of_grantsEngine h]
  rw [onGrant, if_pos h, hs]

/-- The last write of a step answered OK completes its work (R119). -/
theorem exec_memoryAnswer_lastWrite {w : Work} {s : State} (h : s.lastWrite w) (d : Word) :
    exec (.memoryAnswer true d) s = .next (completeWork w [] s) := by
  obtain ⟨a, l, x, ht⟩ := h
  simp [exec_memoryAnswer, execMemoryAnswer, ht, accessAnswered]

/-- An access answered ERROR fails the work it belongs to (R119). -/
theorem exec_memoryAnswer_error {w : Work} {s : State} (h : s.working w) (d : Word) :
    exec (.memoryAnswer false d) s = .next (failWork w s) := by
  obtain ⟨x, ht⟩ := h
  simp [exec_memoryAnswer, execMemoryAnswer, ht]

/-! ## Accesses issued -/

/-- An anchor write issued: the eight words of its copy, to the copy that is not current (R112, R126). -/
theorem issueAnchor_eq (w : Work) (f : AnchorFields) (s : State) :
    issueAnchor w f s = { s with port := ⟨some (s.anchorWriting w (anchorCopy f s)), s.port.lastSide⟩ } := rfl

/-- The head that a release of n epochs leaves is the mark that becomes first (R17). -/
theorem headFields_of_mark {n : Nat} {m : MarkElement} {s : State} (h : s.engine.journal.marks[n]? = some m)
    (st : AnchorState) (action : RestartAction) :
    headFields st action n s = ⟨st, action, m.slot, m.sequence, 0, s.engine.journal.epoch⟩ := by
  simp [headFields, Journal.headAfter, h]

/-! ## The host port told of a change -/

/-- What the host port is after it is told of a change (R65). -/
theorem wake_eq (s : State) : wake s = { s with host := s.woken } := by
  unfold wake State.woken
  cases s.host.current with
  | none => rfl
  | some c => by_cases h : c.phase = .held <;> simp [h, State.withCurrent, State.withHost]

/-- A granted word is not told of a change (R65). -/
theorem woken_of_granted {c : HostAccess} {s : State} (hc : s.host.current = some c) (hp : c.phase = .granted) :
    s.woken = s.host := by
  simp [State.woken, hc, hp]

/-! ## Releases -/

/-- A release recorded by its anchor write (R17). -/
theorem releaseEpochs_anchorWritten {n : Nat} {m : MarkElement} {s : State} (h : s.engine.journal.marks[n]? = some m) :
    releaseEpochs n (anchorWritten s) = s.released n m := by
  simp only [releaseEpochs, wake_eq, anchorWritten, State.withAnchor_engine, Journal.releaseOldest, h]
  rfl

/-- A whole-journal release recorded by its FRESH anchor write (R20). -/
theorem releaseJournal_anchorWritten (s : State) :
    releaseJournal (anchorWritten s) = { s with
      engine := { s.engine with
        anchor := some s.engine.anchorTarget
        journal := { s.engine.journal with head := s.engine.journal.tail, fill := 0, marks := [], touched := [] } }
      host := s.woken } := by
  rw [releaseJournal, wake_eq]
  rfl

/-! ## The end of an exclusive operation -/

/-- With no mark request pending an exclusive operation just ends (R91). -/
theorem endExclusive_of_empty {s : State} (h : s.engine.markPending = 0) : endExclusive s = s.withExclusive none := by
  simp [endExclusive, h]

end Sys2Proof.Machine
end

section
/-!
PROOFS. What the tenancies of RELEASE, DISCARD and PEEK issue (R19, R21, R122).
-/
namespace Sys2Proof.Machine

/-- The lesser of n and the mark count less one, for a RELEASE job at the front of the queue (R19). -/
theorem releaseCount_of_jobs {n : Nat} {rest : List Job} {e : Engine} (h : e.jobs = .release n :: rest) :
    e.releaseCount = min n (e.journal.marks.length - 1) := by
  simp [Engine.releaseCount, Engine.releaseAsked, h]

/-- The release anchor names the mark that becomes first: OPEN while ARMED, IDLE otherwise (R17, Table 7-2). -/
theorem releaseFields_of_mark {n : Nat} {m : MarkElement} {s : State} (h : s.engine.journal.marks[n]? = some m) :
    releaseFields n s =
      if s.engine.state = .armed then ⟨.opened, s.engine.action, m.slot, m.sequence, 0, s.engine.journal.epoch⟩
      else ⟨.idle, .keep, m.slot, m.sequence, 0, s.engine.journal.epoch⟩ := by
  simp only [releaseFields, headFields_of_mark h]

/-- The job at the front leaves the queue (R116). -/
theorem dequeueJob_of_jobs {j : Job} {rest : List Job} {s : State} (h : s.engine.jobs = j :: rest) :
    dequeueJob s = { s with engine := { s.engine with jobs := rest } } := by
  simp [dequeueJob, State.withJobs, State.withEngine, h]

/-- A RELEASE tenancy at its grant (R19). -/
theorem exec_releaseJob_granted {s : State} (h : s.grantsEngine .release = true) :
    exec .releaseJob s = .next
      (if s.engine.state = .broken then dequeueJob s.engineGranted
      else if s.engine.releaseCount = 0 then setFlag .releaseDone (dequeueJob s.engineGranted)
      else issueAnchor (.release s.engine.releaseCount) (releaseFields s.engine.releaseCount s) (dequeueJob s.engineGranted)) := by
  rw [exec_releaseJob, execReleaseJob, onGrant_granted h]
  rfl

/-- A DISCARD tenancy at its grant (R21). -/
theorem exec_discardTenancy_granted {s : State} (h : s.grantsEngine .discard = true) :
    exec .discardTenancy s = .next
      (if s.engine.state = .broken then endExclusive s.engineGranted
      else if s.engine.journal.fill = 0 then endExclusive (setFlag .releaseDone s.engineGranted)
      else issueAnchor .discard (freshFields s) s.engineGranted) := by
  rw [exec_discardTenancy, execDiscardTenancy, onGrant_granted h]
  rfl

/-- A PEEK tenancy at its grant (R122). -/
theorem exec_peekJob_granted {s : State} (h : s.grantsEngine .peek = true) :
    exec .peekJob s = .next
      (issueSlotRead (.peek s.engine.peekSlot (s.engine.retainsSlot s.engine.peekSlot)) s.engine.peekSlot
        (dequeueJob s.engineGranted)) := by
  rw [exec_peekJob, execPeekJob, onGrant_granted h]
  rfl

/-- Settles O39: each tenancy's beginning at a grant, by the branches of R19, R21 and R122. -/
theorem releaseDiscardAndPeekBegin : Obligations.ReleaseDiscardAndPeekBegin := by
  intro s j
  refine ⟨?_, ?_, ?_⟩
  · intro n rest hg hj t r
    have he := exec_releaseJob_granted hg
    have hd : dequeueJob s.engineGranted = t := dequeueJob_of_jobs hj
    rw [releaseCount_of_jobs hj, hd] at he
    refine ⟨fun hb => ?_, fun hb h0 => ?_, fun m hb h0 hm => ?_⟩
    · rw [he, if_pos hb]
    · rw [he, if_neg hb, if_pos h0]
      rfl
    · rw [he, if_neg hb, if_neg h0, releaseFields_of_mark hm, issueAnchor_eq]
      by_cases ha : s.engine.state = .armed
      · rw [if_pos ha, if_pos ha]
        rfl
      · rw [if_neg ha, if_neg ha]
        rfl
  · intro hg hx hp t
    have he := exec_discardTenancy_granted hg
    refine ⟨fun hb => ?_, fun hb h0 => ?_, fun hb h0 => ?_⟩
    · rw [he, if_pos hb, endExclusive_of_empty (by exact hp)]
      rfl
    · rw [he, if_neg hb, if_pos h0, endExclusive_of_empty (by exact hp)]
      rfl
    · rw [he, if_neg hb, if_neg h0]
      rfl
  · intro n rest hg hj
    have hk : s.engine.peekSlot = n := by simp [Engine.peekSlot, hj]
    rw [exec_peekJob_granted hg, hk, dequeueJob_of_jobs (s := s.engineGranted) hj]
    rfl

end Sys2Proof.Machine
end

section
/-!
PROOFS. A MARK entry written, and the mark taken (R16, R18, R22, R77 to R79).
-/
namespace Sys2Proof.Machine

/-- The watermark check of an append that found this fill before it (R22). -/
theorem checkWatermark_eq {n : Nat} {s : State} (h : s.engine.journal.fill = n + 1) : checkWatermark s = s.watched n := by
  simp only [checkWatermark, crossesWatermark, State.watched, h, Nat.add_sub_cancel, Bool.and_eq_true, bne_iff_ne,
    decide_eq_true_eq, and_assoc]
  rfl

/-- The watermark check leaves the memory port as it was (R22). -/
theorem watched_port (n : Nat) (s : State) : (s.watched n).port = s.port := by
  unfold State.watched
  split <;> rfl

/-- The watermark check leaves the engine as it was (R22). -/
theorem watched_engine (n : Nat) (s : State) : (s.watched n).engine = s.engine := by
  unfold State.watched
  split <;> rfl

/-- The mark finished: the touched set emptied, the staged table installed, MARK_TAKEN set and offered with its sources, the
port given back (R77 steps 5 to 7). -/
def State.markTaken (x : SourceSet) (s : State) : State :=
  offer { cause := .markTaken, sources := some x } { s.flagged (BitVec.twoPow 25 0) with
    engine := { s.engine with journal := { s.engine.journal with touched := [] } }
    regions := s.regions.install
    port := ⟨none, s.port.lastSide⟩ }

theorem markFinish_eq (x : SourceSet) (s : State) : markFinish x s = s.markTaken x := rfl

/-- The OPEN anchor write of a mark that leaves `h` as the head (R77, R79). -/
def State.markOpens (w : Work) (h : MarkElement) (s : State) : State := { s with
  port := ⟨some (s.anchorWriting w (s.anchorNow .opened s.engine.action h.slot h.sequence 0 s.engine.journal.epoch)),
    s.port.lastSide⟩ }

/-- An OPEN anchor issued after a release of n epochs names the mark that becomes first (R17, R79). -/
theorem issueAnchor_opened {n : Nat} {h : MarkElement} {s : State} (hn : s.engine.journal.marks[n]? = some h) (w : Work) :
    issueAnchor w (headFields .opened s.engine.action n s) s = s.markOpens w h := by
  rw [headFields_of_mark hn]
  rfl

/-- With no more marks than the limit, the mark is finished (R77 step 4). -/
theorem markLimitStep_within {x : SourceSet} {k : Nat} {s : State} (h : s.engine.journal.marks.length ≤ k) :
    markLimitStep x k s = s.markTaken x := by
  rw [markLimitStep, if_neg (Nat.not_lt.2 h), markFinish_eq]

/-- With more marks than the limit, the OPEN anchor releases those over it (R18, R77 step 4). -/
theorem markLimitStep_over {x : SourceSet} {k : Nat} {m : MarkElement} {s : State} (h : k < s.engine.journal.marks.length)
    (hm : s.engine.journal.marks[s.engine.journal.marks.length - k]? = some m) :
    markLimitStep x k s = s.markOpens (.markLimit x (s.engine.journal.marks.length - k)) m := by
  rw [markLimitStep, if_pos h, issueAnchor_opened hm]

/-- A MARK slot write answered OK: the journal as R16 advances it, with the watermark (R16, R22). -/
theorem appendMark_eq (x : SourceSet) (stamp : Word) (s : State) :
    appendMark x stamp s =
      (s.withJournal (s.engine.journal.appendMark s.engine.slots x stamp)).watched s.engine.journal.fill :=
  checkWatermark_eq rfl

/-- Settles O46: after the append, a LAPSED engine writes its OPEN anchor and any other meets the limit. -/
theorem markIsTaken : Obligations.MarkIsTaken := by
  intro x k stamp d s finished issues limited
  have hlimited : ∀ t : State, t.port.lastSide = s.port.lastSide → limited t (markLimitStep x k t) := by
    intro t ht
    refine ⟨fun hk => ?_, fun h hk hm => ?_⟩
    · rw [markLimitStep_within hk, State.markTaken, ht]
    · rw [markLimitStep_over hk hm, State.markOpens, ht]
  refine ⟨?_, ?_, ?_⟩
  · intro hw j appended t
    have ht : appendMark x stamp s = t := appendMark_eq x stamp s
    have hport : t.port.lastSide = s.port.lastSide := by rw [watched_port]
    have hlapsed : t.engine.journal.lapsed = j.lapsed := by rw [watched_engine]
    refine ⟨_, exec_memoryAnswer_lastWrite hw d, fun h hl hm => ?_, fun hl => ?_⟩
    · simp only [completeWork, markAppendDone, ht, markAfterAppend, hlapsed, hl, if_true]
      rw [issueAnchor_opened hm, State.markOpens, hport]
    · simp only [completeWork, markAppendDone, ht, markAfterAppend, hlapsed, hl]
      exact hlimited t hport
  · intro hw t
    exact ⟨_, exec_memoryAnswer_lastWrite hw d, hlimited t rfl⟩
  · intro hw
    exact exec_memoryAnswer_error hw d

end Sys2Proof.Machine
end

section
/-!
PROOFS. Releases of the oldest epochs and of the whole journal, and what goes on after them (R17 to R21, R26, R27, R58, R97).
-/
namespace Sys2Proof.Machine

/-- The word held: without its region, its timer started when it was not yet running (R65). -/
def HostAccess.heldOver (c : HostAccess) : HostAccess :=
  { c with phase := .held, hold := some (c.hold.getD 0), grant := none }

/-- The state with the granted word held and the port given back (R65). -/
def State.held (c : HostAccess) (s : State) : State :=
  { s with port := ⟨none, s.port.lastSide⟩, host := { s.host with current := some c.heldOver } }

/-- A held word is answered STALL_EXPIRED at once when its time has reached the hold limit (R65, R66). -/
theorem holdWord_eq {c : HostAccess} {s : State} (hc : s.host.current = some c) :
    holdWord s = if holdReached s.settings.holdLimit (some (c.hold.getD 0)) then answerWord (.fault .stallExpired) (s.held c)
      else s.held c := by
  have h : holdWord s = expireIfReached (s.held c) := by
    rw [holdWord, hc]
    rfl
  rw [h]
  simp [expireIfReached, State.held, HostAccess.heldOver]

/-- A word held within its hold limit stays held (R65, R66). -/
theorem holdWord_within {c : HostAccess} {s : State} (hc : s.host.current = some c)
    (hl : s.settings.holdLimit = 0 ∨ c.hold.getD 0 < s.settings.holdLimit) : holdWord s = s.held c := by
  rw [holdWord_eq hc, if_neg]
  simp only [holdReached, Bool.and_eq_true, bne_iff_ne, decide_eq_true_eq]
  omega

/-- A word held at its hold limit is answered STALL_EXPIRED (R66). -/
theorem holdWord_past {c : HostAccess} {s : State} (hc : s.host.current = some c) (hz : s.settings.holdLimit ≠ 0)
    (hl : s.settings.holdLimit ≤ c.hold.getD 0) : holdWord s = answerWord (.fault .stallExpired) (s.held c) := by
  rw [holdWord_eq hc, if_pos]
  simp [holdReached, hz, hl]

/-- What a held word's answer STALL_EXPIRED leaves: the answer, the flag, the journal as it was and the port given back
(R66, R69). -/
theorem held_answered (c : HostAccess) (s : State) :
    let u := answerWord (.fault .stallExpired) (s.held c)
    (∃ rest, u.host.answers = s.host.answers ++ faultTo c.kind .stallExpired :: rest) ∧
    s.faultAnswered { c with grant := none } .stallExpired u ∧
    hasFlag u.events.flags .stallExpired = true ∧ u.engine.journal = s.engine.journal ∧
    u.port = ⟨none, s.port.lastSide⟩ := by
  intro u
  have hcur : (s.held c).host.current = some c.heldOver := rfl
  have alike : AlikeForOffers s (s.held c) := ⟨rfl, rfl, rfl, rfl⟩
  refine ⟨?_, ?_, ?_, ?_, ?_⟩
  · obtain ⟨rest, hr⟩ := answerWord_answers (.fault .stallExpired) c.heldOver (s.held c) hcur
    exact ⟨rest, by rw [hr, fault_answer]; rfl⟩
  · exact alike.faultAnswered { c with grant := none } c.heldOver .stallExpired rfl rfl rfl rfl rfl rfl rfl rfl rfl
      (answerWord_faultAnswered .stallExpired c.heldOver (s.held c) hcur)
  · exact answerWord_sets_cause .stallExpired .stallExpired c.heldOver (s.held c) hcur rfl
  · rw [show u.engine.journal = (s.held c).engine.journal by simp [u]]
    rfl
  · rw [show u.port = (s.held c).port by simp [u]]
    rfl

/-- The work of a granted word's tenancy goes on with that word. -/
theorem withWord_of_current {c : HostAccess} {s : State} (hc : s.host.current = some c) (f : HostAccess → State → State) :
    withWord f s = f c s := by
  rw [withWord, hc]

/-- A whole-journal release made for a granted word: the journal emptied, the host port as it was (R20, R65). -/
theorem releaseJournal_granted {c : HostAccess} {s : State} (hc : s.host.current = some c) (hp : c.phase = .granted) :
    releaseJournal (anchorWritten s) = { s with engine := { s.engine with
      anchor := some s.engine.anchorTarget
      journal := { s.engine.journal with head := s.engine.journal.tail, fill := 0, marks := [], touched := [] } } } := by
  rw [releaseJournal_anchorWritten, woken_of_granted hc hp]

/-- RELEASE goes on to the next release while a second mark stands (R26). -/
theorem releaseOrLose_release {h : MarkElement} {s : State} (hm : s.engine.journal.marks[1]? = some h) :
    releaseOrLose s = s.markOpens .hostRelease h := by
  have hl : 2 ≤ s.engine.journal.marks.length := (List.getElem?_eq_some_iff.1 hm).1
  rw [releaseOrLose, if_pos hl, issueAnchor_opened hm]

/-- RELEASE goes on under LOSE when no second mark stands (R26, R27). -/
theorem releaseOrLose_lose {s : State} (h : s.engine.journal.marks.length < 2) :
    releaseOrLose s = issueAnchor .hostLose (freshFields s) s := by
  rw [releaseOrLose, if_neg (Nat.not_le.2 h)]

/-- Room found after a release: on to the old value (R26). -/
theorem roomAgain_read (c : HostAccess) (s : State) (h : 2 ≤ s.engine.free) : roomAgain c s = readOldValue c s := by
  rw [roomAgain, if_pos h]

/-- No room after a release, a ROLLBACK taken meanwhile: the word is held (R97). -/
theorem roomAgain_hold (c : HostAccess) (s : State) (h : s.engine.free < 2) (hr : s.engine.state = .rolling) :
    roomAgain c s = holdWord s := by
  rw [roomAgain, if_neg (Nat.not_le.2 h), if_pos hr]

/-- No room after a release while ARMED: the next release, or LOSE (R26). -/
theorem roomAgain_next (c : HostAccess) (s : State) (h : s.engine.free < 2) (ha : s.engine.state = .armed) :
    roomAgain c s = releaseOrLose s := by
  rw [roomAgain, if_neg (Nat.not_le.2 h), if_neg (by simp [ha])]

/-- Settles O47: the release recorded, and then what its owner does next. -/
theorem releaseMovesTheHead : Obligations.ReleaseMovesTheHead := by
  intro d s j emptied marking
  refine ⟨?_, ?_, ?_, ?_, ?_, ?_, ?_, ?_⟩
  · intro n m hw hm
    rw [exec_memoryAnswer_lastWrite hw]
    simp only [completeWork, releaseJobDone]
    rw [releaseEpochs_anchorWritten (m := m) (by exact hm)]
    rfl
  · intro x k m hw hm
    rw [exec_memoryAnswer_lastWrite hw]
    simp only [completeWork, markRoomDone]
    rw [releaseEpochs_anchorWritten hm]
    rfl
  · intro a k m hw hm
    rw [exec_memoryAnswer_lastWrite hw]
    simp only [completeWork, armRoomDone]
    rw [releaseEpochs_anchorWritten hm]
    rfl
  · intro x n m hw hm t
    rw [exec_memoryAnswer_lastWrite hw]
    simp only [completeWork, markLimitDone]
    rw [releaseEpochs_anchorWritten hm]
    rfl
  · intro c m hc hp hw hm t k issues
    have hh : t.host = s.host := woken_of_granted hc hp
    have hct : t.host.current = some c := by rw [hh, hc]
    have hu : completeWork .hostRelease [] s = roomAgain c t := by
      simp only [completeWork, hostReleaseDone]
      rw [releaseEpochs_anchorWritten hm, withWord_of_current hct]
    refine ⟨roomAgain c t, by rw [exec_memoryAnswer_lastWrite hw, hu], fun hf => ?_, fun hf hr hl => ?_, fun hf hr hz hl => ?_,
      fun h hf ha h1 => ?_, fun hf ha h1 => ?_⟩
    · rw [roomAgain_read c t hf]
      rfl
    · rw [roomAgain_hold c t hf hr, holdWord_within hct hl, State.held, hh]
      rfl
    · rw [roomAgain_hold c t hf hr, holdWord_past hct hz hl, ← hh]
      exact held_answered c t
    · rw [roomAgain_next c t hf ha, releaseOrLose_release h1]
      rfl
    · rw [roomAgain_next c t hf ha, releaseOrLose_lose h1]
      rfl
  · intro hw hp
    rw [exec_memoryAnswer_lastWrite hw]
    simp only [completeWork, discardDone]
    rw [releaseJournal_anchorWritten, endExclusive_of_empty (by exact hp)]
    rfl
  · intro c hc hp hw
    rw [exec_memoryAnswer_lastWrite hw]
    simp only [completeWork, hostFirstWriteDone]
    rw [releaseJournal_granted hc hp, withWord_of_current (by exact hc)]
    rfl
  · intro c hc hp hw
    rw [exec_memoryAnswer_lastWrite hw]
    simp only [completeWork, hostLoseDone]
    rw [releaseJournal_granted hc hp, withWord_of_current (by exact hc)]
    rfl

end Sys2Proof.Machine
end

section
/-!
PROOFS. Frames, journal entries and anchor copies read back as written, and what is read is what was written (R7, R125, R182,
R183; Tables 11-1 to 11-3 and 11-9).
-/
namespace Sys2Proof

/-! ## Multi-byte fields (R182) -/

/-- A byte joined below a field. -/
theorem toNat_append_byte {n : Nat} (x : BitVec n) (b : Byte) : (x ++ b).toNat = x.toNat * 256 + b.toNat := by
  rw [BitVec.toNat_append, ← Nat.shiftLeft_add_eq_or_of_lt b.isLt, Nat.shiftLeft_eq]

theorem toNat_join16 (a b : Byte) : (join16 a b).toNat = a.toNat * 256 + b.toNat := toNat_append_byte a b

theorem toNat_join24 (a b c : Byte) : (join24 a b c).toNat = (a.toNat * 256 + b.toNat) * 256 + c.toNat :=
  (toNat_append_byte (a ++ b) c).trans (by rw [toNat_append_byte])

theorem toNat_join32 (a b c d : Byte) :
    (join32 a b c d).toNat = ((a.toNat * 256 + b.toNat) * 256 + c.toNat) * 256 + d.toNat :=
  (toNat_append_byte (a ++ b ++ c) d).trans (by rw [toNat_append_byte, toNat_append_byte])

/-- The byte at a bit position of a field. -/
theorem toNat_byteAt {n : Nat} (x : BitVec n) (k : Nat) : (x.extractLsb' k 8).toNat = x.toNat / 2 ^ k % 256 := by
  rw [BitVec.extractLsb'_toNat, Nat.shiftRight_eq_div_pow]

theorem join16_bytes (v : BitVec 16) : join16 (v.extractLsb' 8 8) (v.extractLsb' 0 8) = v := by
  have := v.isLt
  apply BitVec.eq_of_toNat_eq
  simp only [toNat_join16, toNat_byteAt]
  omega

theorem join24_bytes (v : Addr) : join24 (v.extractLsb' 16 8) (v.extractLsb' 8 8) (v.extractLsb' 0 8) = v := by
  have := v.isLt
  apply BitVec.eq_of_toNat_eq
  simp only [toNat_join24, toNat_byteAt]
  omega

theorem join32_bytes (v : Word) :
    join32 (v.extractLsb' 24 8) (v.extractLsb' 16 8) (v.extractLsb' 8 8) (v.extractLsb' 0 8) = v := by
  have := v.isLt
  apply BitVec.eq_of_toNat_eq
  simp only [toNat_join32, toNat_byteAt]
  omega

theorem bytes16_join (a b : Byte) : bytes16 (join16 a b) = [a, b] := by
  have := b.isLt
  simp only [bytes16, List.cons.injEq, ← BitVec.toNat_inj, toNat_byteAt, toNat_join16, and_true]
  omega

theorem bytes24_join (a b c : Byte) : bytes24 (join24 a b c) = [a, b, c] := by
  have := b.isLt
  have := c.isLt
  simp only [bytes24, List.cons.injEq, ← BitVec.toNat_inj, toNat_byteAt, toNat_join24, and_true]
  omega

theorem bytes32_join (a b c d : Byte) : bytes32 (join32 a b c d) = [a, b, c, d] := by
  have := b.isLt
  have := c.isLt
  have := d.isLt
  simp only [bytes32, List.cons.injEq, ← BitVec.toNat_inj, toNat_byteAt, toNat_join32, and_true]
  omega

/-! ## Frames (Tables 11-3 and 11-9) -/

/-- A command is read back from its own code and argument bytes. -/
theorem decodeCommand_commandFrame {c : Instr} {code : Byte} {args : List Byte} (h : commandFrame c = some (code, args)) :
    decodeCommand code args = some c := by
  cases c with
  | set item value =>
    cases h
    exact congrArg (fun v => some (Instr.set item v)) (join32_bytes value)
  | tableWrite index mask f =>
    cases h
    show some (Instr.tableWrite index (join16 _ _) ⟨_, join24 _ _ _, join24 _ _ _, _, _, _, _, join32 _ _ _ _,
      join32 _ _ _ _⟩) = _
    rw [join16_bytes, join24_bytes, join24_bytes, join32_bytes, join32_bytes]
  | peek slot =>
    cases h
    exact congrArg (fun v => some (Instr.peek v)) (join16_bytes slot)
  | ackEvents set =>
    cases h
    exact congrArg (fun v => some (Instr.ackEvents v)) (join32_bytes set)
  | _ => cases h <;> rfl

/-- A code is the byte of its value. -/
theorem code_eq {code : Byte} {n : Nat} (h : code.toNat = n) : code = BitVec.ofNat 8 n := by
  rw [← h, BitVec.ofNat_toNat, BitVec.setWidth_eq]

section
variable {code : Byte} {args : List Byte} {n : Nat} (hc : code.toNat = n)
include hc

theorem frame_noArguments (i : Instr) (h : some 0 = some args.length)
    (hi : commandFrame i = some (BitVec.ofNat 8 n, [])) : ∃ c, commandFrame c = some (code, args) := by
  match args, h with
  | [], _ => exact ⟨i, code_eq hc ▸ hi⟩

theorem frame_oneArgument (f : Byte → Instr) (h : some 1 = some args.length)
    (hf : ∀ a, commandFrame (f a) = some (BitVec.ofNat 8 n, [a])) : ∃ c, commandFrame c = some (code, args) := by
  match args, h with
  | [a], _ => exact ⟨f a, code_eq hc ▸ hf a⟩

theorem frame_twoArguments (f : Byte → Byte → Instr) (h : some 2 = some args.length)
    (hf : ∀ a b, commandFrame (f a b) = some (BitVec.ofNat 8 n, [a, b])) : ∃ c, commandFrame c = some (code, args) := by
  match args, h with
  | [a, b], _ => exact ⟨f a b, code_eq hc ▸ hf a b⟩

theorem frame_fourArguments (f : Byte → Byte → Byte → Byte → Instr) (h : some 4 = some args.length)
    (hf : ∀ a b c d, commandFrame (f a b c d) = some (BitVec.ofNat 8 n, [a, b, c, d])) :
    ∃ c, commandFrame c = some (code, args) := by
  match args, h with
  | [a, b, c, d], _ => exact ⟨f a b c d, code_eq hc ▸ hf a b c d⟩

end

/-- Five argument bytes are SET's, of the item and value they spell. -/
theorem frame_set {args : List Byte} (h : some 5 = some args.length) :
    ∃ c, commandFrame c = some (0x03, args) := by
  match args, h with
  | [i, a, b, c, d], _ => exact ⟨.set i (join32 a b c d), congrArg (fun bs => some (0x03, i :: bs)) (bytes32_join a b c d)⟩

/-- TABLE_WRITE's argument bytes are those its fields were joined from (Table 11-9). -/
theorem tableWriteBytes_join (i m1 m0 en b2 b1 b0 l2 l1 l0 md tg ac rg c3 c2 c1 c0 p3 p2 p1 p0 : Byte) :
    tableWriteBytes i (join16 m1 m0)
      ⟨en, join24 b2 b1 b0, join24 l2 l1 l0, md, tg, ac, rg, join32 c3 c2 c1 c0, join32 p3 p2 p1 p0⟩ =
    [i, m1, m0, en, b2, b1, b0, l2, l1, l0, md, tg, ac, rg, c3, c2, c1, c0, p3, p2, p1, p0] := by
  rw [tableWriteBytes, bytes16_join, bytes24_join, bytes24_join, bytes32_join, bytes32_join]
  rfl

/-- Twenty-two argument bytes are TABLE_WRITE's, of the fields they spell (Table 11-9). -/
theorem frame_tableWrite {args : List Byte} (h : some 22 = some args.length) :
    ∃ c, commandFrame c = some (0x05, args) := by
  match args, h with
  | [i, m1, m0, en, b2, b1, b0, l2, l1, l0, md, tg, ac, rg, c3, c2, c1, c0, p3, p2, p1, p0], _ =>
    exact ⟨.tableWrite i (join16 m1 m0)
      ⟨en, join24 b2 b1 b0, join24 l2 l1 l0, md, tg, ac, rg, join32 c3 c2 c1 c0, join32 p3 p2 p1 p0⟩,
      congrArg (fun bs => some (0x05, bs)) (tableWriteBytes_join i m1 m0 en b2 b1 b0 l2 l1 l0 md tg ac rg c3 c2 c1 c0 p3 p2 p1 p0)⟩

/-- As many argument bytes as the code's command expects are some command's own frame (Table 11-3). -/
theorem exists_commandFrame {code : Byte} {args : List Byte} (h : argumentLength code = some args.length) :
    ∃ c, commandFrame c = some (code, args) := by
  unfold argumentLength at h
  split at h <;> rename_i hc
  · exact frame_noArguments hc .status h rfl
  · exact frame_oneArgument hc .get h fun _ => rfl
  · exact code_eq hc ▸ frame_set h
  · exact frame_twoArguments hc .tableRead h fun _ _ => rfl
  · exact code_eq hc ▸ frame_tableWrite h
  · exact frame_noArguments hc .install h rfl
  · exact frame_oneArgument hc .arm h fun _ => rfl
  · exact frame_noArguments hc .disarm h rfl
  · exact frame_noArguments hc .mark h rfl
  · exact frame_oneArgument hc .release h fun _ => rfl
  · exact frame_oneArgument hc .rollback h fun _ => rfl
  · exact frame_noArguments hc .discard h rfl
  · exact frame_oneArgument hc .format h fun _ => rfl
  · exact frame_twoArguments hc (fun a b => .peek (join16 a b)) h fun a b =>
      congrArg (fun bs => some (0x0E, bs)) (bytes16_join a b)
  · exact frame_noArguments hc .peekRead h rfl
  · exact frame_twoArguments hc .marksRead h fun _ _ => rfl
  · exact frame_fourArguments hc .captureSet h fun _ _ _ _ => rfl
  · exact frame_oneArgument hc .captureRead h fun _ => rfl
  · exact frame_fourArguments hc (fun a b c d => .ackEvents (join32 a b c d)) h fun a b c d =>
      congrArg (fun bs => some (0x13, bs)) (bytes32_join a b c d)
  · exact frame_noArguments hc .restart h rfl
  · exact nomatch h

theorem noArguments_length {i c : Instr} {args : List Byte} (h : noArguments i args = some c) : 0 = args.length := by
  unfold noArguments at h
  split at h
  · rfl
  · exact nomatch h

theorem oneArgument_length {f : Byte → Instr} {c : Instr} {args : List Byte} (h : oneArgument f args = some c) :
    1 = args.length := by
  unfold oneArgument at h
  split at h
  · rfl
  · exact nomatch h

theorem twoArguments_length {f : Byte → Byte → Instr} {c : Instr} {args : List Byte} (h : twoArguments f args = some c) :
    2 = args.length := by
  unfold twoArguments at h
  split at h
  · rfl
  · exact nomatch h

theorem fourArguments_length {f : Byte → Byte → Byte → Byte → Instr} {c : Instr} {args : List Byte}
    (h : fourArguments f args = some c) : 4 = args.length := by
  unfold fourArguments at h
  split at h
  · rfl
  · exact nomatch h

theorem decodeSet_length {c : Instr} {args : List Byte} (h : decodeSet args = some c) : 5 = args.length := by
  unfold decodeSet at h
  split at h
  · rfl
  · exact nomatch h

theorem decodeTableWrite_length {c : Instr} {args : List Byte} (h : decodeTableWrite args = some c) :
    22 = args.length := by
  unfold decodeTableWrite at h
  split at h
  · rfl
  · exact nomatch h

/-- The argument bytes that spell a command are as many as its code expects (Table 11-3). -/
theorem argumentLength_of_decodeCommand {code : Byte} {args : List Byte} {c : Instr} (h : decodeCommand code args = some c) :
    argumentLength code = some args.length := by
  unfold decodeCommand at h
  split at h <;> rename_i hc
  case h_1 | h_6 | h_8 | h_9 | h_12 | h_15 | h_20 => exact code_eq hc ▸ congrArg some (noArguments_length h)
  case h_2 | h_7 | h_10 | h_11 | h_13 | h_18 => exact code_eq hc ▸ congrArg some (oneArgument_length h)
  case h_4 | h_14 | h_16 => exact code_eq hc ▸ congrArg some (twoArguments_length h)
  case h_17 | h_19 => exact code_eq hc ▸ congrArg some (fourArguments_length h)
  case h_3 => exact code_eq hc ▸ congrArg some (decodeSet_length h)
  case h_5 => exact code_eq hc ▸ congrArg some (decodeTableWrite_length h)
  case h_21 => exact nomatch h

/-- What a code and its argument bytes spell is the command whose own frame they are. -/
theorem decodeCommand_eq_some_iff {code : Byte} {args : List Byte} {c : Instr} :
    decodeCommand code args = some c ↔ commandFrame c = some (code, args) := by
  refine ⟨fun h => ?_, decodeCommand_commandFrame⟩
  obtain ⟨e, he⟩ := exists_commandFrame (argumentLength_of_decodeCommand h)
  obtain rfl : e = c := Option.some.inj ((decodeCommand_commandFrame he).symm.trans h)
  exact he

/-- A frame is well formed when its argument bytes are as many as its code expects (R169). -/
theorem malformed_eq_false_iff {code : Byte} {args : List Byte} (hl : args.length ≤ 255) :
    malformed code (BitVec.ofNat 8 args.length) = false ↔ argumentLength code = some args.length := by
  rw [malformed, BitVec.toNat_ofNat, Nat.mod_eq_of_lt (by omega), bne_eq_false_iff_eq]

/-- A frame of up to 255 argument bytes is read as what it spells, else as FRAME_UNKNOWN (R169). -/
theorem decodeFrame_eq {code : Byte} {args : List Byte} (hl : args.length ≤ 255) :
    decodeFrame code args = some ((decodeCommand code args).getD (.frameUnknown code (BitVec.ofNat 8 args.length))) := by
  rw [decodeFrame, if_neg (by omega)]

/-- A command is read back from the well-formed frame it is sent in. -/
theorem decodeFrame_commandFrame {c : Instr} {code : Byte} {args : List Byte} (h : commandFrame c = some (code, args)) :
    decodeFrame code args = some c ∧ malformed code (BitVec.ofNat 8 args.length) = false := by
  have hd := decodeCommand_commandFrame h
  have hl : args.length ≤ 255 := (Machine.commandFrame_length c code args h).trans (by decide)
  refine ⟨?_, (malformed_eq_false_iff hl).2 (argumentLength_of_decodeCommand hd)⟩
  rw [decodeFrame_eq hl, hd]
  rfl

/-- A frame is read as the command whose own frame it is, or it is malformed and read as FRAME_UNKNOWN (R169). -/
theorem of_decodeFrame {code : Byte} {args : List Byte} {c : Instr} (h : decodeFrame code args = some c) :
    commandFrame c = some (code, args) ∨
      malformed code (BitVec.ofNat 8 args.length) = true ∧ c = .frameUnknown code (BitVec.ofNat 8 args.length) := by
  by_cases hl : args.length ≤ 255
  · rw [decodeFrame_eq hl, Option.some.injEq] at h
    cases hd : decodeCommand code args with
    | some e =>
      obtain rfl : e = c := by simpa [hd] using h
      exact .inl (decodeCommand_eq_some_iff.1 hd)
    | none =>
      refine .inr ⟨?_, by simpa [hd] using h.symm⟩
      by_contra hm
      obtain ⟨e, he⟩ := exists_commandFrame ((malformed_eq_false_iff hl).1 (Bool.not_eq_true _ ▸ hm))
      exact nomatch hd.symm.trans (decodeCommand_commandFrame he)
  · rw [decodeFrame, if_pos (by omega)] at h
    exact nomatch h

end Sys2Proof

namespace Sys2Proof.Machine

/-! ## Journal entries (R7, Table 11-1) -/

/-- A kind is named by its own word alone. -/
theorem entryKind_eq_some_iff (w : Word) (k : EntryKind) : entryKind w = some k ↔ w = k.word := by
  constructor
  · intro h
    unfold entryKind at h
    (repeat' split at h) <;> cases h <;> assumption
  · rintro rfl
    cases k <;> decide

/-- An entry is read back from its eight words. -/
theorem parseEntry_words (e : Entry) : parseEntry e.words = some e := by
  show (if crcWords e.body = crcWords e.body then
    (entryKind e.kind.word).map fun kind => (⟨kind, e.sequence, e.link, e.third, e.fourth, e.epoch, e.stamp⟩ : Entry)
    else none) = some e
  rw [if_pos rfl, (entryKind_eq_some_iff _ _).2 rfl]
  rfl

/-- Eight words taken for an entry are that entry's. -/
theorem words_of_parseEntry {e : Entry} {ws : List Word} (h : parseEntry ws = some e) : ws = e.words := by
  unfold parseEntry at h
  split at h
  · split at h
    · rename_i hc
      obtain ⟨kind, hk, rfl⟩ := Option.map_eq_some_iff.1 h
      rw [Entry.words, withCheck, Entry.body, ← (entryKind_eq_some_iff _ _).1 hk, hc]
      rfl
    · exact nomatch h
  · exact nomatch h

/-! ## Anchor copies (R125, Table 11-2) -/

/-- The reserved bits of word 1 (section 11.3). -/
theorem anchorReserved_getLsbD : ∀ i < 32, anchorReserved.getLsbD i = decide (i = 11 ∨ i = 15 ∨ 17 ≤ i) := by decide

/-- A bit of a word by its place value. -/
theorem getLsbD_eq_decide {n : Nat} (w : BitVec n) (i : Nat) : w.getLsbD i = decide (w.toNat / 2 ^ i % 2 = 1) := by
  rw [← BitVec.testBit_toNat, Nat.testBit_eq_decide_div_mod_eq]

/-- The reserved bits are clear when bits 11 and 15 are, and those from 17 up (section 11.3). -/
theorem and_anchorReserved_eq_zero_iff (w : Word) :
    w &&& anchorReserved = 0 ↔ w.toNat / 2 ^ 11 % 2 = 0 ∧ w.toNat / 2 ^ 15 % 2 = 0 ∧ w.toNat < 2 ^ 17 := by
  have bits : w &&& anchorReserved = 0 ↔ ∀ i < 32, (i = 11 ∨ i = 15 ∨ 17 ≤ i) → w.toNat / 2 ^ i % 2 = 0 := by
    refine ⟨fun h i hi hr => ?_, fun h => BitVec.eq_of_getLsbD_eq fun i hi => ?_⟩
    · have hb := congrArg (fun x => BitVec.getLsbD x i) h
      simp only [BitVec.getLsbD_and, anchorReserved_getLsbD i hi, hr, getLsbD_eq_decide w, decide_true, Bool.and_true,
        BitVec.ofNat_eq_ofNat, BitVec.getLsbD_zero, decide_eq_false_iff_not] at hb
      omega
    · simp only [BitVec.getLsbD_and, anchorReserved_getLsbD i hi, getLsbD_eq_decide w, BitVec.ofNat_eq_ofNat,
        BitVec.getLsbD_zero]
      by_cases hr : i = 11 ∨ i = 15 ∨ 17 ≤ i
      · simp [h i hi hr]
      · simp [hr]
  rw [bits]
  constructor
  · intro h
    refine ⟨h 11 (by decide) (by decide), h 15 (by decide) (by decide), Nat.lt_pow_two_of_testBit _ fun i hi => ?_⟩
    by_cases h32 : i < 32
    · simp [Nat.testBit_eq_decide_div_mod_eq, h i h32 (.inr (.inr hi))]
    · exact Nat.testBit_eq_false_of_lt (w.isLt.trans_le (Nat.pow_le_pow_right (by decide) (by omega)))
  · rintro ⟨h11, h15, h17⟩ i hi (rfl | rfl | hr)
    · exact h11
    · exact h15
    · rw [Nat.div_eq_of_lt (h17.trans_le (Nat.pow_le_pow_right (by decide) hr))]

/-- A state is named by its own code alone (Table 11-2). -/
theorem anchorState_eq_some_iff (n : Nat) (x : AnchorState) : anchorState n = some x ↔ n = x.code := by
  constructor
  · intro h
    unfold anchorState at h
    split at h <;> cases h <;> rfl
  · rintro rfl
    cases x <;> rfl

/-- The restart action a bit names. -/
theorem restartAction_eq_iff (b : Bool) (a : RestartAction) : restartAction b = a ↔ b.toNat = a.code := by
  cases b <;> cases a <;> decide

theorem RestartAction.code_lt (a : RestartAction) : a.code < 2 := by cases a <;> decide

theorem AnchorState.code_lt (x : AnchorState) : x.code < 256 := by cases x <;> decide

/-- A field of a word by its place value. -/
theorem toNat_fieldAt (w : Word) (i n : Nat) : (w.extractLsb' i n).toNat = w.toNat / 2 ^ i % 2 ^ n := by
  rw [BitVec.extractLsb'_toNat, Nat.shiftRight_eq_div_pow]

theorem toNat_getLsbD (w : Word) (i : Nat) : (w.getLsbD i).toNat = w.toNat / 2 ^ i % 2 := by
  rw [getLsbD_eq_decide]
  rcases Nat.mod_two_eq_zero_or_one (w.toNat / 2 ^ i) with h | h <;> simp [h]

/-- Word 1 is read where its reserved bits are clear and each of its fields names a value (R125, section 11.3). -/
theorem parseWord1_fields (w : Word) (x : AnchorState) (k : Fin 8) (m : Fin 5) (a : RestartAction) :
    parseWord1 w = some (x, k, m, a) ↔ w &&& anchorReserved = 0 ∧ w.toNat / 2 ^ 0 % 2 ^ 8 = x.code ∧
      w.toNat / 2 ^ 8 % 2 ^ 3 = k.val ∧ w.toNat / 2 ^ 12 % 2 ^ 3 = m.val ∧ w.toNat / 2 ^ 16 % 2 = a.code := by
  simp only [← toNat_fieldAt, ← toNat_getLsbD, ← anchorState_eq_some_iff, ← restartAction_eq_iff, parseWord1]
  by_cases h0 : w &&& anchorReserved = 0
  · rw [if_pos h0]
    cases anchorState (w.extractLsb' 0 8).toNat with
    | none => simp
    | some y =>
      by_cases hm : (w.extractLsb' 12 3).toNat < 5
      · simp only [dif_pos hm, Option.some.injEq, Prod.mk.injEq, Fin.ext_iff, BitVec.val_toFin, h0, true_and]
      · have hne : (w.extractLsb' 12 3).toNat ≠ m.val := by have := m.isLt; omega
        simp only [dif_neg hm, hne, reduceCtorEq, false_and, and_false]
  · simp only [h0, if_false, reduceCtorEq, false_and]

/-- Word 1 names these fields exactly when it is the sum of their codes at their places (R125, Table 11-2). -/
theorem parseWord1_eq_some_iff (w : Word) (x : AnchorState) (k : Fin 8) (m : Fin 5) (a : RestartAction) :
    parseWord1 w = some (x, k, m, a) ↔
      w.toNat = x.code + k.val * 2 ^ 8 + m.val * 2 ^ 12 + a.code * 2 ^ 16 := by
  rw [parseWord1_fields, and_anchorReserved_eq_zero_iff]
  have := x.code_lt
  have := k.isLt
  have := m.isLt
  have := a.code_lt
  omega

/-- A slot number fits in a word. -/
theorem slotCount_lt : ∀ k : Fin 8, slotCount k < 2 ^ 32 := by decide

/-- Word 1 is read back from an anchor copy. -/
theorem parseWord1_word1 (c : AnchorCopy) :
    parseWord1 c.word1 = some (c.state, c.sizeCode, c.memoryCode, c.action) := by
  have := c.state.code_lt
  have := c.sizeCode.isLt
  have := c.memoryCode.isLt
  have := c.action.code_lt
  rw [parseWord1_eq_some_iff, AnchorCopy.word1, BitVec.toNat_ofNat, Nat.mod_eq_of_lt (by omega)]

/-- Word 1 of an anchor copy is all that names its fields. -/
theorem word1_of_parseWord1 {w : Word} {c : AnchorCopy}
    (h : parseWord1 w = some (c.state, c.sizeCode, c.memoryCode, c.action)) : w = c.word1 := by
  rw [AnchorCopy.word1, ← (parseWord1_eq_some_iff _ _ _ _ _).1 h, BitVec.ofNat_toNat, BitVec.setWidth_eq]

/-- An anchor copy whose fields are in range is read back from its eight words. -/
theorem parseAnchor_words {c : AnchorCopy} (ha : sizeAllowed c.memoryCode c.sizeCode = true)
    (hs : c.headSlot < slotCount c.sizeCode) : parseAnchor c.memoryCode c.words = some c := by
  have hn : (BitVec.ofNat 32 c.headSlot).toNat = c.headSlot := by
    rw [BitVec.toNat_ofNat, Nat.mod_eq_of_lt (hs.trans (slotCount_lt _))]
  show (if crcWords c.body = crcWords c.body then _ else none) = _
  rw [if_pos rfl, parseWord1_word1]
  simp only [decide_true, ha, hn, hs, Bool.and_true, if_true]

/-- Eight words taken for an anchor copy carry its fields in range, this memory's size code and the check over the others. -/
theorem of_parseAnchor {memory : Fin 5} {c : AnchorCopy} {ws : List Word} (h : parseAnchor memory ws = some c) :
    c.memoryCode = memory ∧ sizeAllowed memory c.sizeCode = true ∧ c.headSlot < slotCount c.sizeCode ∧
    ∃ unused, ws = withCheck [c.generation, c.word1, BitVec.ofNat 32 c.headSlot, c.headSequence, c.targetSequence, c.epoch,
      unused] := by
  unfold parseAnchor at h
  split at h
  · rename_i generation w1 headSlot headSequence target epoch w6 check
    split at h
    · rename_i hc
      split at h
      · rename_i x k m a hw
        split at h
        · rename_i hr
          simp only [Bool.and_eq_true, decide_eq_true_eq] at hr
          obtain ⟨⟨hm, ha⟩, hs⟩ := hr
          cases h
          refine ⟨hm, ha, hs, w6, ?_⟩
          rw [← word1_of_parseWord1 (c := ⟨generation, x, k, m, a, headSlot.toNat, headSequence, target, epoch⟩) hw]
          simp only [BitVec.ofNat_toNat, BitVec.setWidth_eq, withCheck, hc, List.cons_append, List.nil_append]
        · exact nomatch h
      · exact nomatch h
    · exact nomatch h
  · exact nomatch h

/-- Settles O60: frames, entries and anchor copies, each read back and each read from nothing else. -/
theorem framesAndRecordsReadBack : Obligations.FramesAndRecordsReadBack :=
  ⟨fun _ _ _ => decodeFrame_commandFrame, fun _ _ hl => ⟨_, decodeFrame_eq hl⟩, fun _ _ _ => of_decodeFrame, parseEntry_words,
    fun _ _ => words_of_parseEntry, fun _ => parseAnchor_words, fun _ _ _ => of_parseAnchor⟩

end Sys2Proof.Machine
end

section
/-!
PROOFS. What each engine command is answered, by engine state, argument and work in progress (Table 10-4 and the answer tables
of R19, R21, R46, R80, R87, R89, R94, R121 and R129).
-/
namespace Sys2Proof.Machine

/-! ## A row of Table 10-4 -/

/-- The status in the column of an engine state; HALTED is answered HALTED (Table 10-4). -/
def EngineState.row (e : EngineState) (recovering unformatted formatting disarmed armed rolling broken : Status) : Status :=
  match e with
  | .recovering => recovering
  | .unformatted => unformatted
  | .formatting => formatting
  | .disarmed => disarmed
  | .armed => armed
  | .rolling => rolling
  | .broken => broken
  | .halted => .halted

/-- BUSY while the work that bars a command is there, else what the state gives (R117). -/
def busyIf (barred : Bool) (x : Status) : Status := if barred then .busy else x

/-- A judgement answers this status, and refuses when it is neither OK nor ACCEPTED (R172). -/
def Judged (s : State) (p : Response × State) (x : Status) : Prop :=
  p.1.status = x ∧ (x ≠ .ok → x ≠ .accepted → p = refuse x s)

theorem judged_refuse (s : State) (x : Status) : Judged s (refuse x s) x := ⟨rfl, fun _ _ => rfl⟩

theorem judged_ok (s t : State) : Judged s (answerOnly .ok, t) .ok := ⟨rfl, fun h => absurd rfl h⟩

theorem judged_accepted (s t : State) : Judged s (answerOnly .accepted, t) .accepted := ⟨rfl, fun _ h => absurd rfl h⟩

/-- A judgement that asks first whether other work bars the command. -/
theorem judged_busyIf {s : State} {b : Bool} {p : Response × State} {x : Status} (h : Judged s p x) :
    Judged s (if b then refuse .busy s else p) (busyIf b x) := by
  cases b
  · exact h
  · exact judged_refuse s .busy

/-- A judgement by cases answers by the same cases. -/
theorem judged_ite {s : State} {c : Prop} [Decidable c] {p q : Response × State} {x y : Status}
    (hp : c → Judged s p x) (hq : ¬ c → Judged s q y) : Judged s (if c then p else q) (if c then x else y) := by
  by_cases h : c
  · simpa only [if_pos h] using hp h
  · simpa only [if_neg h] using hq h

/-- A command is answered this status, and a refusal changes nothing but the link (R172). -/
def State.answers (s : State) (c : Instr) (x : Status) : Prop :=
  ∃ t, exec c s = .next t ∧ t.link.response.map (·.status) = some x ∧ (x ≠ .ok → x ≠ .accepted → t = s.answered x [])

/-- A command being taken is answered as it is judged (R168, R170). -/
theorem answers_of_judged {s : State} (h : s.serving) (c : Instr) {code : Byte} {args : List Byte}
    (hf : commandFrame c = some (code, args)) (judge : State → Response × State) (he : exec c s = serve c judge s)
    {x : Status} (hj : Judged s (judge s) x) : s.answers c x := by
  obtain ⟨hstatus, hrefuse⟩ := hj
  refine ⟨_, he.trans (serve_taken c code args hf judge s h.1 h.2), congrArg some hstatus, fun h1 h2 => ?_⟩
  rw [hrefuse h1 h2]
  rfl

/-- Past the link's own refusals a command is judged by the engine (R180, R181). -/
theorem engineCommand_of_listens {s : State} (h : s.engineListens) (judge : State → Response × State) :
    engineCommand judge s = judge s := by
  obtain ⟨-, hhalted, hrestart⟩ := h
  simp [engineCommand, unlessHalted, unlessRestarting, hhalted, hrestart]

/-- An engine command being taken is answered as the engine judges it. -/
theorem answers_of_engine {s : State} (h : s.engineListens) (c : Instr) {code : Byte} {args : List Byte}
    (hf : commandFrame c = some (code, args)) (judge : State → Response × State)
    (he : exec c s = serve c (engineCommand judge) s) {x : Status} (hj : Judged s (judge s) x) : s.answers c x :=
  answers_of_judged h.1 c hf _ he (engineCommand_of_listens h judge ▸ hj)

/-! ## The work that bars a command (R116, R117) -/

theorem ofJob_eq_servesJob (w : Work) : w.ofJob = w.servesJob := by cases w <;> rfl

/-- A job is running while a step of a job holds the port (R116). -/
theorem jobRunning_iff (s : State) : s.jobRunning = true ↔ s.jobServed := by
  unfold State.jobRunning State.jobServed
  cases s.port.tenancy <;> simp [ofJob_eq_servesJob]

/-- The engine has work that bars an exclusive command (R117). -/
theorem engineOccupied_iff (s : State) :
    s.engineOccupied = true ↔ s.engine.jobs ≠ [] ∨ s.jobServed ∨ s.engine.exclusive ≠ none := by
  simp only [State.engineOccupied, Bool.or_eq_true, jobRunning_iff, Bool.not_eq_true', List.isEmpty_eq_false_iff,
    Option.isSome_iff_ne_none, or_assoc]

theorem engineOccupied_of_free {s : State} (h : s.engineFree) : s.engineOccupied = false := by
  obtain ⟨hjobs, hexclusive, hserved⟩ := h
  rw [← Bool.not_eq_true, engineOccupied_iff]
  simp [hjobs, hexclusive, hserved]

/-- A host tenancy is making a release (R94). -/
theorem hostReleasing_iff (s : State) : s.hostReleasing = true ↔ s.hostReleases := by
  unfold State.hostReleasing State.hostReleases State.working
  match s.port.tenancy with
  | none => simp
  | some ⟨w, x⟩ => cases w <;> simp

/-- A PEEK job is running (R116). -/
theorem peekRunning_iff (s : State) : s.peekRunning = true ↔ ∃ n k, s.working (.peek n k) := by
  unfold State.peekRunning State.working
  match s.port.tenancy with
  | none => simp
  | some ⟨w, x⟩ => cases w <;> simp

/-- RELEASE must wait (R19). -/
theorem releaseBusy_iff (e : Engine) : e.releaseBusy = true ↔ e.exclusive ≠ none ∨ ∃ n, Job.release n ∈ e.jobs := by
  have hjob : ∀ j : Job, j.isRelease = true ↔ ∃ n, j = .release n := by
    intro j
    cases j <;> simp [Job.isRelease]
  simp only [Engine.releaseBusy, Bool.or_eq_true, Option.isSome_iff_ne_none, List.any_eq_true, hjob]
  grind

/-- PEEK must wait (R121). -/
theorem peekBusy_iff (s : State) : s.peekBusy = true ↔
    s.engine.exclusive ≠ none ∨ (∃ n, Job.peek n ∈ s.engine.jobs) ∨ ∃ n k, s.working (.peek n k) := by
  have hjob : ∀ j : Job, j.isPeek = true ↔ ∃ n, j = .peek n := by
    intro j
    cases j <;> simp [Job.isPeek]
  simp only [State.peekBusy, Bool.or_eq_true, Option.isSome_iff_ne_none, List.any_eq_true, hjob, peekRunning_iff]
  grind

/-- With no job and no exclusive operation nothing bars MARK, RELEASE or PEEK. -/
theorem nothing_bars_of_free {s : State} (h : s.engineFree) :
    s.engine.exclusive.isSome = false ∧ s.engine.releaseBusy = false ∧ s.peekBusy = false := by
  obtain ⟨hjobs, hexclusive, hserved⟩ := h
  have hpeek : ∀ n k, ¬ s.working (.peek n k) := fun n k ⟨x, ht⟩ => hserved ⟨_, ht, rfl⟩
  refine ⟨by rw [hexclusive]; rfl, ?_, ?_⟩
  · rw [← Bool.not_eq_true, releaseBusy_iff]
    simp [hjobs, hexclusive]
  · rw [← Bool.not_eq_true, peekBusy_iff]
    simp [hjobs, hexclusive, hpeek]

/-! ## The rows -/

/-- INSTALL by engine state (R46). -/
theorem judgeInstall_row (s : State) :
    Judged s (judgeInstall s) (s.engine.state.row .busy .ok .ok .ok .wrongState .busy .ok) := by
  unfold judgeInstall
  cases s.engine.state
  case unformatted | formatting | disarmed | broken => exact judged_ok s _
  all_goals exact judged_refuse s _

/-- ARM's argument names a restart action (R87). -/
theorem judgeArm_row (s : State) {action : Byte} {a : RestartAction} (ha : decodeRestartAction action.toNat = some a) :
    Judged s (judgeArm action s) (s.engine.state.row .busy .notFormatted .busy (busyIf s.engineOccupied .accepted)
      (busyIf s.engineOccupied .wrongState) .busy (busyIf s.engineOccupied .wrongState)) := by
  simp only [judgeArm, ha]
  cases s.engine.state
  case disarmed => exact judged_busyIf (judged_accepted s _)
  case armed | broken => exact judged_busyIf (judged_refuse s _)
  all_goals exact judged_refuse s _

/-- ARM's argument is judged before any state but HALTED (R87). -/
theorem judgeArm_badArg {s : State} {action : Byte} (hs : s.engine.state ≠ .halted) (ha : 1 < action.toNat) :
    Judged s (judgeArm action s) .badArg := by
  have hd : decodeRestartAction action.toNat = none := by
    obtain ⟨n, hn⟩ := Nat.exists_eq_add_of_le' ha
    rw [hn]
    rfl
  simp only [judgeArm, if_neg hs, hd]
  exact judged_refuse s _

/-- DISARM by engine state (R89). -/
theorem judgeDisarm_row (s : State) :
    Judged s (judgeDisarm s) (s.engine.state.row .busy (busyIf s.engineOccupied .wrongState) .busy
      (busyIf s.engineOccupied .wrongState) (busyIf s.engineOccupied .accepted) .busy
      (busyIf s.engineOccupied .wrongState)) := by
  unfold judgeDisarm
  cases s.engine.state
  case armed => exact judged_busyIf (judged_accepted s _)
  case unformatted | disarmed | broken => exact judged_busyIf (judged_refuse s _)
  all_goals exact judged_refuse s _

/-- MARK by engine state (R80). -/
theorem judgeMark_row (s : State) :
    Judged s (judgeMark s) (s.engine.state.row .busy (busyIf s.engine.exclusive.isSome .wrongState) .busy
      (busyIf s.engine.exclusive.isSome .wrongState) (busyIf s.engine.exclusive.isSome .accepted) .busy
      (busyIf s.engine.exclusive.isSome .wrongState)) := by
  unfold judgeMark
  cases s.engine.state
  case armed => exact judged_busyIf (judged_accepted s _)
  case unformatted | disarmed | broken => exact judged_busyIf (judged_refuse s _)
  all_goals exact judged_refuse s _

/-- RELEASE of 1 to 16 epochs by engine state (R19). -/
theorem judgeRelease_row (s : State) {n : Byte} (h1 : 1 ≤ n.toNat) (h16 : n.toNat ≤ 16) :
    Judged s (judgeRelease n s) (s.engine.state.row .busy .notFormatted .busy (busyIf s.engine.releaseBusy .accepted)
      (busyIf s.engine.releaseBusy .accepted) .busy (busyIf s.engine.releaseBusy .wrongState)) := by
  rw [judgeRelease, if_neg (by omega)]
  cases s.engine.state
  case armed | disarmed => exact judged_busyIf (judged_accepted s _)
  case broken => exact judged_busyIf (judged_refuse s _)
  all_goals exact judged_refuse s _

/-- RELEASE's count is judged first (R19). -/
theorem judgeRelease_badArg {s : State} {n : Byte} (h : n.toNat = 0 ∨ 16 < n.toNat) :
    Judged s (judgeRelease n s) .badArg := by
  rw [judgeRelease, if_pos (by omega)]
  exact judged_refuse s _

/-- ROLLBACK past the state checks takes a depth that names a retained mark (R94, R95). -/
theorem takeRollback_judged (origin : RollbackOrigin) (d : Byte) (s : State) :
    Judged s (takeRollback origin d s)
      (if 1 ≤ d.toNat ∧ d.toNat ≤ s.engine.journal.marks.length then .accepted else .badArg) := by
  unfold takeRollback
  by_cases h : 1 ≤ d.toNat ∧ d.toNat ≤ s.engine.journal.marks.length
  · rw [if_neg (by omega), if_pos h, List.getElem?_eq_getElem (by omega)]
    exact judged_accepted s _
  · rw [if_pos (by omega), if_neg h]
    exact judged_refuse s _

/-- ROLLBACK by engine state, its depth judged last (R94). -/
theorem judgeRollback_row (d : Byte) (s : State) :
    let barred := s.engineOccupied || s.hostReleasing
    let taken : Status := if 1 ≤ d.toNat ∧ d.toNat ≤ s.engine.journal.marks.length then .accepted else .badArg
    Judged s (judgeRollback d s) (s.engine.state.row .busy .notFormatted .busy
      (busyIf barred (if s.engine.journal.fill = 0 then .wrongState else taken))
      (busyIf barred (if s.engine.journal.lapsed = true then .wrongState else taken)) .busy (busyIf barred .wrongState)) := by
  intro barred taken
  unfold judgeRollback
  cases s.engine.state
  case armed | disarmed =>
    exact judged_busyIf (judged_ite (fun _ => judged_refuse s _) fun _ => takeRollback_judged _ d s)
  case broken => exact judged_busyIf (judged_refuse s _)
  all_goals exact judged_refuse s _

/-- DISCARD by engine state: OK at once on an empty journal (R21). -/
theorem judgeDiscard_row (s : State) :
    Judged s (judgeDiscard s) (s.engine.state.row .busy .notFormatted .busy
      (busyIf s.engineOccupied (if s.engine.journal.fill = 0 then .ok else .accepted))
      (busyIf s.engineOccupied .wrongState) .busy (busyIf s.engineOccupied .wrongState)) := by
  unfold judgeDiscard
  cases s.engine.state
  case disarmed => exact judged_busyIf (judged_ite (fun _ => judged_ok s _) fun _ => judged_accepted s _)
  case armed | broken => exact judged_busyIf (judged_refuse s _)
  all_goals exact judged_refuse s _

/-- A size code is decoded exactly when it is allowed for this memory (R3, R129). -/
theorem decodeSizeCode_isSome_iff (memory : Fin 5) (k : Byte) :
    (decodeSizeCode memory k).isSome = true ↔ k.toNat < 8 ∧ 32 * (256 * 2 ^ k.toNat) ≤ memoryBytes memory / 4 := by
  unfold decodeSizeCode
  by_cases h8 : k.toNat < 8
  · by_cases hs : 32 * (256 * 2 ^ k.toNat) ≤ memoryBytes memory / 4 <;> simp [h8, sizeAllowed, slotCount, hs]
  · simp [h8]

/-- FORMAT of an allowed size by engine state (R129). -/
theorem judgeFormat_row (s : State) {k : Byte} (hk : k.toNat < 8 ∧ 32 * (256 * 2 ^ k.toNat) ≤ s.memorySize / 4) :
    Judged s (judgeFormat k s) (s.engine.state.row .busy (busyIf s.engineOccupied .accepted) .busy
      (busyIf s.engineOccupied .accepted) (busyIf s.engineOccupied .wrongState) .busy
      (busyIf s.engineOccupied .accepted)) := by
  obtain ⟨z, hz⟩ := Option.isSome_iff_exists.1 ((decodeSizeCode_isSome_iff s.memoryCode k).2 hk)
  simp only [judgeFormat, hz, takeFormat]
  cases s.engine.state
  case unformatted | disarmed | broken => exact judged_busyIf (judged_accepted s _)
  case armed => exact judged_busyIf (judged_refuse s _)
  all_goals exact judged_refuse s _

/-- FORMAT's size is judged before any state but HALTED (R129). -/
theorem judgeFormat_badArg {s : State} {k : Byte} (hs : s.engine.state ≠ .halted)
    (hk : ¬ (k.toNat < 8 ∧ 32 * (256 * 2 ^ k.toNat) ≤ s.memorySize / 4)) : Judged s (judgeFormat k s) .badArg := by
  have hd : decodeSizeCode s.memoryCode k = none :=
    Option.not_isSome_iff_eq_none.1 fun h => hk ((decodeSizeCode_isSome_iff s.memoryCode k).1 h)
  simp only [judgeFormat, if_neg hs, hd]
  exact judged_refuse s _

/-- PEEK by engine state, its slot judged last (R121). -/
theorem judgePeek_row (n : BitVec 16) (s : State) :
    let taken := busyIf s.peekBusy (if n.toNat < s.engine.slots then .accepted else .badArg)
    Judged s (judgePeek n s) (s.engine.state.row .busy .notFormatted .busy taken taken .busy taken) := by
  intro taken
  have htake : Judged s (takePeek n s) taken := by
    refine judged_busyIf ?_
    by_cases h : n.toNat < s.engine.slots
    · rw [if_neg (Nat.not_le.2 h), if_pos h]
      exact judged_accepted s _
    · rw [if_pos (Nat.not_lt.1 h), if_neg h]
      exact judged_refuse s _
  unfold judgePeek
  cases s.engine.state
  case armed | disarmed | broken => exact htake
  all_goals exact judged_refuse s _

/-! ## The answers -/

section
variable {s : State} (h : s.engineListens)
include h

theorem arm_answers {a : Byte} {x : Status} (hj : Judged s (judgeArm a s) x) : s.answers (.arm a) x :=
  answers_of_engine h _ rfl _ rfl hj

theorem disarm_answers {x : Status} (hj : Judged s (judgeDisarm s) x) : s.answers .disarm x :=
  answers_of_engine h _ rfl _ rfl hj

theorem mark_answers {x : Status} (hj : Judged s (judgeMark s) x) : s.answers .mark x :=
  answers_of_engine h _ rfl _ rfl hj

theorem release_answers {n : Byte} {x : Status} (hj : Judged s (judgeRelease n s) x) : s.answers (.release n) x :=
  answers_of_engine h _ rfl _ rfl hj

theorem rollback_answers {d : Byte} {x : Status} (hj : Judged s (judgeRollback d s) x) : s.answers (.rollback d) x :=
  answers_of_engine h _ rfl _ rfl hj

theorem discard_answers {x : Status} (hj : Judged s (judgeDiscard s) x) : s.answers .discard x :=
  answers_of_engine h _ rfl _ rfl hj

theorem format_answers {k : Byte} {x : Status} (hj : Judged s (judgeFormat k s) x) : s.answers (.format k) x :=
  answers_of_engine h _ rfl _ rfl hj

theorem peek_answers {n : BitVec 16} {x : Status} (hj : Judged s (judgePeek n s) x) : s.answers (.peek n) x :=
  answers_of_engine h _ rfl _ rfl hj

end

/-- Settles O16: each command's row, with what bars the command there or not. -/
theorem answersByEngineState : Obligations.AnswersByEngineState := by
  intro s h answers row allBusy busyFormatted allowed
  have arm0 := arm_answers h (judgeArm_row s (action := 0) rfl)
  have arm1 := arm_answers h (judgeArm_row s (action := 1) rfl)
  have disarm := disarm_answers h (judgeDisarm_row s)
  have mark := mark_answers h (judgeMark_row s)
  have release := fun (n : Byte) h1 h16 => release_answers h (judgeRelease_row s (n := n) h1 h16)
  have rollback := fun d => rollback_answers h (judgeRollback_row d s)
  have discard := discard_answers h (judgeDiscard_row s)
  have format := fun (k : Byte) hk => format_answers h (judgeFormat_row s (k := k) hk)
  have peek := fun n => peek_answers h (judgePeek_row n s)
  have install : s.answers .install _ := answers_of_judged h.1 .install rfl (unlessHalted judgeInstall) rfl
    (x := s.engine.state.row .busy .ok .ok .ok .wrongState .busy .ok) (by
      rw [unlessHalted, h.2.1]
      exact judgeInstall_row s)
  refine ⟨install, fun hfree => ?_, fun hs => ?_, fun hwork => ?_, fun hrel d => ?_, fun hx => ?_, fun hw n h1 h16 => ?_,
    fun hw n => ?_⟩
  · obtain ⟨hexclusive, hrelease, hpeek⟩ := nothing_bars_of_free hfree
    simp only [engineOccupied_of_free hfree] at arm0 arm1 disarm discard format rollback
    rw [hexclusive] at mark
    rw [hrelease] at release
    rw [hpeek] at peek
    refine ⟨arm0, arm1, disarm, mark, release, fun d hrel => ?_, discard, format, peek⟩
    have hr : s.hostReleasing = false := by rw [← Bool.not_eq_true, hostReleasing_iff]; exact hrel
    rw [hr] at rollback
    exact rollback d
  · exact ⟨fun a ha => arm_answers h (judgeArm_badArg hs ha), fun n hn => release_answers h (judgeRelease_badArg hn),
      fun k hk => format_answers h (judgeFormat_badArg hs hk)⟩
  · have hocc : s.engineOccupied = true := by rw [engineOccupied_iff]; exact hwork
    simp only [hocc, Bool.true_or] at arm0 arm1 disarm discard format rollback
    exact ⟨arm0, arm1, disarm, discard, rollback, format⟩
  · simp only [(hostReleasing_iff s).2 hrel, Bool.or_true] at rollback
    exact rollback d
  · rw [Option.isSome_iff_ne_none.2 hx] at mark
    exact mark
  · rw [(releaseBusy_iff _).2 hw] at release
    exact release n h1 h16
  · rw [(peekBusy_iff s).2 hw] at peek
    exact peek n

end Sys2Proof.Machine
end

section
/-!
SUPPORT. The link's answers from a command's judgement, and the codes of the regions and capture slots a command names
(R168, R170, R184).
-/
namespace Sys2Proof.Machine

/-- A command being taken leaves the state its judgement leaves, with its answer formed (R168, R170). -/
theorem exec_of_judgement {s t : State} (h : s.serving) {c : Instr} {code : Byte} {args : List Byte}
    (hf : commandFrame c = some (code, args)) {judge : State → Response × State} (he : exec c s = serve c judge s)
    {r : Response} (hj : judge s = (r, t)) (hl : t.link = s.link) : exec c s = .next (t.answered r.status r.data) := by
  rw [he, serve_taken c code args hf judge s h.1 h.2, hj]
  simp [State.answered, State.withLink, hl]

/-- Outside HALTED the link hands a command on (R180). -/
theorem unlessHalted_of_running {s : State} (h : s.control.halted = false) (judge : State → Response × State) :
    unlessHalted judge s = judge s := by
  simp [unlessHalted, h]

/-- A region's own code is read as that region (R41, R47). -/
theorem decodeRegion_code (i : Fin Config.regionCount) : decodeRegion (BitVec.ofNat 8 i.val).toNat = some i := by
  rw [BitVec.toNat_ofNat, Nat.mod_eq_of_lt (Nat.lt_trans i.isLt (by decide)), decodeRegion, dif_pos i.isLt]

/-- A number above 11 is no region's (R41, R47). -/
theorem decodeRegion_beyond {n : Nat} (h : 11 < n) : decodeRegion n = none := dif_neg (Nat.not_lt.2 h)

/-- A capture slot's own code is read as that slot (R153). -/
theorem decodeCaptureSlot_code (i : Fin Config.captureCount) :
    decodeCaptureSlot (BitVec.ofNat 8 i.val).toNat = some i := by
  rw [BitVec.toNat_ofNat, Nat.mod_eq_of_lt (Nat.lt_trans i.isLt (by decide)), decodeCaptureSlot, dif_pos i.isLt]

/-- A number above 3 is no capture slot's (R153). -/
theorem decodeCaptureSlot_beyond {n : Nat} (h : 3 < n) : decodeCaptureSlot n = none := dif_neg (Nat.not_lt.2 h)

end Sys2Proof.Machine
end

section
/-!
PROOFS. The region table at work: a word's region, a count with the match it may make, and INSTALL (R30, R31, R35 to R39, R44,
R46).
-/
namespace Sys2Proof.Machine

/-! ## Resolution (R30, R31) -/

theorem contains_iff (c : RegionConfig) (a : Nat) :
    c.contains a = true ↔ c.enabled = true ∧ c.base.toNat ≤ a ∧ a ≤ c.limit.toNat + 255 := by
  simp [RegionConfig.contains, and_assoc]

/-- The lowest-numbered entry that contains a word gives its mode and region (R31). -/
theorem resolve_of_first {t : RegionTable} {a : Nat} {i : Fin Config.regionCount}
    (hi : t.active[i].config.contains a = true) (hfirst : ∀ j < i, t.active[j].config.contains a = false) :
    t.resolve a = ⟨t.active[i].config.mode, some i⟩ := by
  have hfind : ((List.finRange Config.regionCount).find? fun j => t.active[j].config.contains a) = some i := by
    refine List.find?_eq_some_iff_getElem.2 ⟨hi, i.val, by simp, by simp, fun j hj => ?_⟩
    simpa using hfirst ⟨j, by omega⟩ hj
  rw [RegionTable.resolve, hfind]

/-- A word that no entry contains has the default mode and no region (R31). -/
theorem resolve_of_none {t : RegionTable} {a : Nat} (h : ∀ i : Fin Config.regionCount, t.active[i].config.contains a = false) :
    t.resolve a = ⟨t.activeDefault, none⟩ := by
  have hfind : ((List.finRange Config.regionCount).find? fun j => t.active[j].config.contains a) = none :=
    List.find?_eq_none.2 fun j _ => Bool.not_eq_true _ ▸ h j
  rw [RegionTable.resolve, hfind]

/-! ## Counts and matches (R35 to R39) -/

theorem matchesAt_iff (e : ActiveEntry) (n : Word) :
    e.matchesAt n = true ↔ e.config.compareAction ≠ .none ∧ e.config.compareValue = n := by
  simp [ActiveEntry.matchesAt]

/-- The entry replaced is the one read back. -/
theorem setEntry_same (i : Fin Config.regionCount) (e : ActiveEntry) (s : State) :
    (setEntry i e s).regions.active[i] = e := by
  simp [setEntry]

/-- The second of two replacements of an entry stands. -/
theorem setEntry_setEntry (i : Fin Config.regionCount) (e d : ActiveEntry) (s : State) :
    setEntry i d (setEntry i e s) = setEntry i d s := by
  simp [setEntry, State.withRegions]

/-- A count that makes no match adds one to the counter (R35). -/
theorem countEntry_unmatched {i : Fin Config.regionCount} {s : State}
    (h : s.regions.active[i].matchesAt (s.regions.active[i].counter + 1) = false) :
    countEntry i s = setEntry i { s.regions.active[i] with counter := s.regions.active[i].counter + 1 } s := by
  rw [countEntry, h]
  rfl

/-- The part after a match's first three steps: the hit flag, COMPARE_MATCH and the offer (R37). -/
def State.matched (s : State) (i : Fin Config.regionCount) : State :=
  offer { cause := .compare, region := some i } (setFlag .compareMatch
    (setEntry i { s.regions.active[i] with hit := true, counter := s.regions.active[i].counter + 1 } s))

theorem matched_entry (i : Fin Config.regionCount) (s : State) : (s.matched i).regions.active[i] =
    { s.regions.active[i] with hit := true, counter := s.regions.active[i].counter + 1 } := by
  simp only [State.matched, offer_frame, setFlag_frame, setEntry_same]

/-- A count that makes a match goes on from its first three steps to the action and the ring (R37, R38, R39). -/
theorem countEntry_matched {i : Fin Config.regionCount} {s : State}
    (h : s.regions.active[i].matchesAt (s.regions.active[i].counter + 1) = true) :
    countEntry i s = ringReturn i (compareAct i (s.matched i)) := by
  rw [countEntry, if_pos h, compareMatch, setEntry_same, setEntry_setEntry]
  rfl

/-- The action a match has, by the entry's own settings (R38). -/
theorem compareAct_matched (i : Fin Config.regionCount) (s : State) : compareAct i (s.matched i) =
    if s.regions.active[i].config.compareAction = .mark then requestMark .compare (s.matched i) else s.matched i := by
  rw [compareAct, matched_entry]

/-- With ring a matched counter becomes 0, by the entry's own settings (R39). -/
theorem ringReturn_matched (i : Fin Config.regionCount) (s : State) : ringReturn i (compareAct i (s.matched i)) =
    if s.regions.active[i].config.ring then
      setEntry i { s.regions.active[i] with hit := true, counter := 0 } (compareAct i (s.matched i))
    else compareAct i (s.matched i) := by
  have hentry : (compareAct i (s.matched i)).regions.active[i] =
      { s.regions.active[i] with hit := true, counter := s.regions.active[i].counter + 1 } := by
    simp only [compareAct_frame, matched_entry]
  rw [ringReturn, hentry]

/-- Settles O28: a word's region, and a count with and without a match. -/
theorem regionsResolveAndCount : Obligations.RegionsResolveAndCount := by
  intro s
  constructor
  · intro a inside
    have outside : ∀ j, ¬ inside j → s.regions.active[j].config.contains a = false := fun j hj =>
      Bool.eq_false_iff.2 fun hc => hj ((contains_iff _ a).1 hc)
    exact ⟨fun i hi hfirst => resolve_of_first ((contains_iff _ a).2 hi) fun j hj => outside j (hfirst j hj),
      fun hnone => resolve_of_none fun i => outside i (hnone i)⟩
  intro i e
  refine ⟨fun h => ?_, fun haction hvalue => ?_⟩
  · refine countEntry_unmatched (Bool.eq_false_iff.2 fun hm => ?_)
    obtain ⟨haction, hvalue⟩ := (matchesAt_iff e _).1 hm
    exact h.elim haction (absurd hvalue)
  · intro matched acted
    rw [countEntry_matched ((matchesAt_iff e _).2 ⟨haction, hvalue⟩), ringReturn_matched, compareAct_matched]
    rfl

/-! ## INSTALL (R44, R46) -/

theorem install_active (t : RegionTable) (i : Fin Config.regionCount) :
    t.install.active[i] = installEntry t.active[i] t.staged[i] := by
  simp [RegionTable.install]

theorem install_staged (t : RegionTable) (i : Fin Config.regionCount) : t.install.staged[i] = settleEntry t.staged[i] := by
  simp [RegionTable.install]

/-- An installed entry has the staged settings (R44). -/
theorem installEntry_config (a : ActiveEntry) (t : StagedEntry) :
    (installEntry a t).config = if t.installs then t.config else a.config := by
  unfold installEntry
  split <;> rfl

/-- An installed entry's counter is the preset where one stands (R44). -/
theorem installEntry_counter (a : ActiveEntry) (t : StagedEntry) :
    (installEntry a t).counter = if t.installs then t.preset.getD a.counter else a.counter := by
  unfold installEntry
  split <;> rfl

/-- Installation keeps the hit flag (R44). -/
theorem installEntry_hit (a : ActiveEntry) (t : StagedEntry) : (installEntry a t).hit = a.hit := by
  unfold installEntry
  split <;> rfl

/-- What installation leaves of a staged entry (R44). -/
theorem settleEntry_fields (t : StagedEntry) :
    (settleEntry t).config = t.config ∧ (settleEntry t).installs = false ∧
    (settleEntry t).preset = if t.installs then none else t.preset := by
  cases h : t.installs <;> simp [settleEntry, h]

/-- The states in which INSTALL installs (R46). -/
theorem judgeInstall_installs {s : State} (h : s.engine.state = .unformatted ∨ s.engine.state = .formatting ∨
    s.engine.state = .disarmed ∨ s.engine.state = .broken) : judgeInstall s = (answerOnly .ok, install s) := by
  obtain h | h | h | h := h <;> rw [judgeInstall, h]

/-- Settles O22: the table installation leaves, entry by entry. -/
theorem installCopiesThePendingSettings : Obligations.InstallCopiesThePendingSettings := by
  intro s h hrun hstate
  have hjudge : unlessHalted judgeInstall s = (answerOnly .ok, install s) := by
    rw [unlessHalted_of_running hrun, judgeInstall_installs hstate]
  refine ⟨s.regions.install, exec_of_judgement h rfl rfl hjudge rfl, fun i => ?_, fun i => ?_, fun i => ?_, fun i => ?_,
    rfl, rfl, rfl⟩
  · rw [install_active, installEntry_config]
  · rw [install_active, installEntry_counter]
    cases s.regions.staged[i].installs <;> cases s.regions.staged[i].preset <;> rfl
  · rw [install_active, installEntry_hit]
  · rw [install_staged]
    exact settleEntry_fields _

end Sys2Proof.Machine
end

section
/-!
PROOFS. TABLE_WRITE stages what its mask names when every field named decodes and the range is one of this memory (R41, R184).
-/
namespace Sys2Proof.Machine

/-! ## Codes that name a value (R184, Table 11-5) -/

theorem decodeYesNo_eq_some_iff {b : Byte} {x : Bool} : decodeYesNo b = some x ↔ b.toNat = x.toNat := by
  unfold decodeYesNo
  generalize b.toNat = n
  constructor
  · intro h
    split at h <;> cases h <;> rfl
  · rintro rfl
    cases x <;> rfl

theorem decodeMode_eq_some_iff {n : Nat} {x : Mode} : decodeMode n = some x ↔ n = x.code := by
  constructor
  · intro h
    unfold decodeMode at h
    split at h <;> cases h <;> rfl
  · rintro rfl
    cases x <;> rfl

theorem decodeTarget_eq_some_iff {n : Nat} {x : CountTarget} : decodeTarget n = some x ↔ n = x.code := by
  constructor
  · intro h
    unfold decodeTarget at h
    split at h <;> cases h <;> rfl
  · rintro rfl
    cases x <;> rfl

theorem decodeCompareAction_eq_some_iff {n : Nat} {x : CompareAction} : decodeCompareAction n = some x ↔ n = x.code := by
  constructor
  · intro h
    unfold decodeCompareAction at h
    split at h <;> cases h <;> rfl
  · rintro rfl
    cases x <;> rfl

theorem Mode.code_le (m : Mode) : m.code ≤ 2 := by cases m <;> decide

theorem CountTarget.code_le (t : CountTarget) : t.code ≤ 2 := by cases t <;> decide

theorem CompareAction.code_le (x : CompareAction) : x.code ≤ 2 := by cases x <;> decide

/-! ## The fields named (R41) -/

/-- A field named takes a value its code decodes to, a field not named is kept (R41). -/
theorem maskedField_eq_some_iff {α : Type} {present : Bool} {decoded : Option α} {kept x : α} :
    maskedField present decoded kept = some x ↔ if present then decoded = some x else x = kept := by
  cases present
  · exact ⟨fun h => (Option.some.inj h).symm, fun h => congrArg some h.symm⟩
  · exact Iff.rfl

/-- A configuration is the staged one with the fields the mask names given their values (R41). -/
structure FieldsStaged (mask : BitVec 16) (f : TableFields) (kept c : RegionConfig) : Prop where
  enabled : if mask.getLsbD 0 then f.enabled.toNat = c.enabled.toNat else c.enabled = kept.enabled
  base : c.base = if mask.getLsbD 1 then f.base else kept.base
  limit : c.limit = if mask.getLsbD 2 then f.limit else kept.limit
  mode : if mask.getLsbD 3 then f.mode.toNat = c.mode.code else c.mode = kept.mode
  target : if mask.getLsbD 4 then f.target.toNat = c.target.code else c.target = kept.target
  compareValue : c.compareValue = if mask.getLsbD 5 then f.compareValue else kept.compareValue
  action : if mask.getLsbD 6 then f.action.toNat = c.compareAction.code else c.compareAction = kept.compareAction
  ring : if mask.getLsbD 7 then f.ring.toNat = c.ring.toNat else c.ring = kept.ring

/-- A field named has a code that names a value (R184, Table 11-5). -/
theorem FieldsStaged.codes_in_range {mask : BitVec 16} {f : TableFields} {kept c : RegionConfig}
    (h : FieldsStaged mask f kept c) :
    ¬ (mask.getLsbD 0 = true ∧ 1 < f.enabled.toNat) ∧ ¬ (mask.getLsbD 3 = true ∧ 2 < f.mode.toNat) ∧
    ¬ (mask.getLsbD 4 = true ∧ 2 < f.target.toNat) ∧ ¬ (mask.getLsbD 6 = true ∧ 2 < f.action.toNat) ∧
    ¬ (mask.getLsbD 7 = true ∧ 1 < f.ring.toNat) := by
  have named : ∀ {b : Bool} {n m k : Nat} {p : Prop}, (if b then n = m else p) → m ≤ k → ¬ (b = true ∧ k < n) := by
    rintro b n m k p hnm hk ⟨rfl, hn⟩
    have heq : n = m := hnm
    omega
  exact ⟨named h.enabled (Bool.toNat_le _), named h.mode (Mode.code_le _), named h.target (CountTarget.code_le _),
    named h.action (CompareAction.code_le _), named h.ring (Bool.toNat_le _)⟩

/-- What a TABLE_WRITE would leave is the staged configuration with the fields named, and there is none when a field named does
not decode (R41, R184). -/
theorem tableConfig_eq_some_iff {mask : BitVec 16} {f : TableFields} {kept c : RegionConfig} :
    tableConfig mask f kept = some c ↔ FieldsStaged mask f kept c := by
  simp only [tableConfig, Option.pure_def, Option.bind_eq_bind, Option.bind_eq_some_iff, maskedField_eq_some_iff,
    decodeYesNo_eq_some_iff, decodeMode_eq_some_iff, decodeTarget_eq_some_iff, decodeCompareAction_eq_some_iff,
    Option.some.injEq]
  constructor
  · rintro ⟨enabled, he, mode, hm, target, ht, action, ha, ring, hr, rfl⟩
    exact ⟨he, rfl, rfl, hm, ht, rfl, ha, hr⟩
  · rintro ⟨he, hb, hl, hm, ht, hv, ha, hr⟩
    refine ⟨c.enabled, he, c.mode, hm, c.target, ht, c.compareAction, ha, c.ring, hr, ?_⟩
    rw [← hb, ← hl, ← hv]

/-! ## The range and the entry (R41) -/

theorem memorySize_ge (s : State) : 256 ≤ s.memorySize := by
  have h : 1048576 * 1 ≤ s.memorySize := Nat.mul_le_mul_left _ Nat.one_le_two_pow
  omega

theorem rangeAllowed_iff {memory : Nat} (h : 256 ≤ memory) {base limit : Addr} : rangeAllowed memory base limit = true ↔
    base.toNat % 256 = 0 ∧ limit.toNat % 256 = 0 ∧ base.toNat ≤ limit.toNat ∧ limit.toNat + 256 ≤ memory := by
  simp only [rangeAllowed, Bool.and_eq_true, decide_eq_true_eq, and_assoc, Nat.le_sub_iff_add_le h]

/-- A mask names no field beyond the nine when it lies below 2^9 (R184). -/
theorem mask_within_iff (mask : BitVec 16) : mask.extractLsb' 9 7 = 0 ↔ mask.toNat < 2 ^ 9 := by
  have hmask := mask.isLt
  rw [← BitVec.toNat_inj, BitVec.extractLsb'_toNat, Nat.shiftRight_eq_div_pow]
  change mask.toNat / 2 ^ 9 % 2 ^ 7 = 0 ↔ _
  omega

/-- The staged entry a TABLE_WRITE leaves (R41). -/
theorem tableEntry_eq_some_iff {memory : Nat} (h : 256 ≤ memory) {mask : BitVec 16} {f : TableFields} {t e : StagedEntry} :
    tableEntry memory mask f t = some e ↔ mask.toNat < 2 ^ 9 ∧ FieldsStaged mask f t.config e.config ∧
      (e.config.base.toNat % 256 = 0 ∧ e.config.limit.toNat % 256 = 0 ∧ e.config.base.toNat ≤ e.config.limit.toNat ∧
        e.config.limit.toNat + 256 ≤ memory) ∧
      e = ⟨e.config, if mask.getLsbD 8 then some f.preset else t.preset, true⟩ := by
  rw [← mask_within_iff, ← tableConfig_eq_some_iff, ← rangeAllowed_iff h, tableEntry]
  constructor
  · intro he
    split at he
    case isFalse => cases he
    case isTrue hmask =>
      split at he
      case h_2 => cases he
      case h_1 c hc =>
        split at he
        case isFalse => cases he
        case isTrue hr =>
          cases he
          exact ⟨hmask, hc, hr, rfl⟩
  · rintro ⟨hmask, hc, hr, he⟩
    rw [if_pos hmask, hc]
    simp only [hr, if_true]
    rw [← he]

/-! ## The command -/

section
variable {i : Fin Config.regionCount} {mask : BitVec 16} {f : TableFields} {s : State}

theorem judgeTableWrite_staged {t : StagedEntry} (h : tableEntry s.memorySize mask f s.regions.staged[i] = some t) :
    judgeTableWrite (BitVec.ofNat 8 i.val) mask f s = (answerOnly .ok, setStaged i t s) := by
  simp only [judgeTableWrite, decodeRegion_code, h]

theorem judgeTableWrite_refused (h : tableEntry s.memorySize mask f s.regions.staged[i] = none) :
    judgeTableWrite (BitVec.ofNat 8 i.val) mask f s = refuse .badArg s := by
  simp only [judgeTableWrite, decodeRegion_code, h]

theorem judgeTableWrite_beyond {index : Byte} (h : 11 < index.toNat) :
    judgeTableWrite index mask f s = refuse .badArg s := by
  simp only [judgeTableWrite, decodeRegion_beyond h]

end

/-- A TABLE_WRITE the link hands on is answered as it is judged. -/
theorem exec_tableWrite {s t : State} (h : s.serving) (hrun : s.control.halted = false) {index : Byte} {mask : BitVec 16}
    {f : TableFields} {r : Response} (hj : judgeTableWrite index mask f s = (r, t)) (hl : t.link = s.link) :
    exec (.tableWrite index mask f) s = .next (t.answered r.status r.data) :=
  exec_of_judgement h rfl rfl ((unlessHalted_of_running hrun _).trans hj) hl

/-- Settles O21: an entry staged when its fields and range stand, and each refusal. -/
theorem tableWriteStagesTheNamedFields : Obligations.TableWriteStagesTheNamedFields := by
  constructor
  · intro i mask f c s h hrun hmask henabled hbase hlimit hmode htarget hvalue haction hring hbase0 hlimit0 hle hend
    have hentry := (tableEntry_eq_some_iff (memorySize_ge s)
      (e := ⟨c, if mask.getLsbD 8 then some f.preset else s.regions.staged[i].preset, true⟩)).2
      ⟨hmask, ⟨henabled, hbase, hlimit, hmode, htarget, hvalue, haction, hring⟩, ⟨hbase0, hlimit0, hle, hend⟩, rfl⟩
    exact exec_tableWrite h hrun (judgeTableWrite_staged hentry) rfl
  · intro mask f s h hrun
    refine ⟨fun index hindex => exec_tableWrite h hrun (judgeTableWrite_beyond hindex) rfl, ?_⟩
    intro i base limit hbad
    refine exec_tableWrite h hrun (judgeTableWrite_refused (Option.eq_none_iff_forall_ne_some.2 fun e he => ?_)) rfl
    obtain ⟨hmask, hfields, ⟨hbase0, hlimit0, hle, hend⟩, -⟩ := (tableEntry_eq_some_iff (memorySize_ge s)).1 he
    obtain ⟨henabled, hmode, htarget, haction, hring⟩ := hfields.codes_in_range
    have hbase : e.config.base = base := hfields.base
    have hlimit : e.config.limit = limit := hfields.limit
    rw [hbase] at hbase0 hle
    rw [hlimit] at hlimit0 hle hend
    rcases hbad with hbad | hbad | hbad | hbad | hbad | hbad | hbad
    · omega
    · exact henabled hbad
    · exact hmode hbad
    · exact htarget hbad
    · exact haction hbad
    · exact hring hbad
    · omega

end Sys2Proof.Machine
end

section
/-!
PROOFS. The read commands: each answers its bytes in every engine state and changes nothing but the link's frame (R47,
R123, R153, R174, R175, R178 to R180; Tables 11-8, 11-10 and 11-11).
-/
namespace Sys2Proof.Machine

/-! ## Judgements that change nothing (R179) -/

/-- A judgement that answers its bytes, or refuses, and changes nothing (R170, R179). -/
inductive OnlyReads (s : State) : Response × State → Prop where
  | data (bs : List Byte) : OnlyReads s (answerData bs, s)
  | refused (x : Status) : OnlyReads s (refuse x s)

theorem judgeGet_onlyReads (item : Byte) (s : State) : OnlyReads s (judgeGet item s) := by
  unfold judgeGet
  split
  · exact .data _
  · exact .refused _

theorem judgeTableRead_onlyReads (index table : Byte) (s : State) : OnlyReads s (judgeTableRead index table s) := by
  unfold judgeTableRead
  split
  · exact .data _
  · exact .refused _

theorem judgePeekRead_onlyReads (s : State) : OnlyReads s (judgePeekRead s) := by
  unfold judgePeekRead
  split
  · exact .data _
  · exact .refused _
  · exact .refused _

theorem judgeMarksRead_onlyReads (first count : Byte) (s : State) : OnlyReads s (judgeMarksRead first count s) := by
  unfold judgeMarksRead
  split
  · exact .data _
  · exact .refused _

theorem judgeCaptureRead_onlyReads (slot : Byte) (s : State) : OnlyReads s (judgeCaptureRead slot s) := by
  unfold judgeCaptureRead
  split
  · exact .data _
  · exact .refused _

/-- A command so judged changes the link's frame alone, and a refusal carries no bytes (R170, R179). -/
theorem exec_of_onlyReads {s : State} (h : s.serving) {c : Instr} {code : Byte} {args : List Byte}
    (hf : commandFrame c = some (code, args)) {judge : State → Response × State} (he : exec c s = serve c judge s)
    (hj : OnlyReads s (judge s)) : ∃ x bs, exec c s = .next (s.answered x bs) ∧ (x ≠ .ok → bs = []) := by
  generalize hp : judge s = p at hj
  cases hj with
  | data bs => exact ⟨.ok, bs, exec_of_judgement h hf he hp rfl, fun hx => absurd rfl hx⟩
  | refused x => exact ⟨x, [], exec_of_judgement h hf he hp rfl, fun _ => rfl⟩

/-- The six commands that only read (R179, R180). -/
theorem exec_of_readsOnly {c : Instr} {s : State} (hc : readsOnly c = true) (h : s.serving) :
    ∃ x bs, exec c s = .next (s.answered x bs) ∧ (x ≠ .ok → bs = []) := by
  cases c with
  | status => exact exec_of_onlyReads h rfl rfl (.data (statusBytes s))
  | get item => exact exec_of_onlyReads h rfl rfl (judgeGet_onlyReads item s)
  | tableRead index table => exact exec_of_onlyReads h rfl rfl (judgeTableRead_onlyReads index table s)
  | peekRead => exact exec_of_onlyReads h rfl rfl (judgePeekRead_onlyReads s)
  | marksRead first count => exact exec_of_onlyReads h rfl rfl (judgeMarksRead_onlyReads first count s)
  | captureRead slot => exact exec_of_onlyReads h rfl rfl (judgeCaptureRead_onlyReads slot s)
  | _ => cases hc

/-! ## TABLE_READ (R47, Table 11-8) -/

theorem judgeTableRead_active (i : Fin Config.regionCount) (s : State) : judgeTableRead (BitVec.ofNat 8 i.val) 0 s =
    (answerData (activeBytes i s.regions.active[i] s.regions.activeDefault), s) := by
  rw [judgeTableRead, decodeRegion_code]
  rfl

theorem judgeTableRead_staged (i : Fin Config.regionCount) (s : State) : judgeTableRead (BitVec.ofNat 8 i.val) 1 s =
    (answerData (stagedBytes i s.regions.staged[i] s.regions.stagedDefault s.regions.defaultInstalls), s) := by
  rw [judgeTableRead, decodeRegion_code]
  rfl

/-- A code above 1 names no table (Table 11-3). -/
theorem tableResponse_beyond {table : Byte} (h : 1 < table.toNat) (i : Fin Config.regionCount) (s : State) :
    tableResponse i table s = none := by
  obtain ⟨n, hn⟩ := Nat.exists_eq_add_of_le' h
  rw [tableResponse, hn]
  rfl

theorem judgeTableRead_refused {index table : Byte} (h : 11 < index.toNat ∨ 1 < table.toNat) (s : State) :
    judgeTableRead index table s = refuse .badArg s := by
  have hnone : ((decodeRegion index.toNat).bind fun i => tableResponse i table s) = none := by
    rcases h with hindex | htable
    · rw [decodeRegion_beyond hindex]
      rfl
    · exact Option.bind_eq_none_iff.2 fun i _ => tableResponse_beyond htable i s
  rw [judgeTableRead, hnone]

/-! ## PEEK_READ (R123, Table 11-10) -/

theorem judgePeekRead_ready {r : PeekResult} {s : State} (h : s.engine.peek = .ready r) :
    judgePeekRead s = (answerData (peekBytes r), s) := by
  rw [judgePeekRead, h]

theorem judgePeekRead_notReady {s : State} (h : s.engine.peek = .empty ∨ s.engine.peek = .pending) :
    judgePeekRead s = refuse .notReady s := by
  rcases h with h | h <;> rw [judgePeekRead, h]

/-! ## MARKS_READ (R178, section 11.5) -/

theorem judgeMarksRead_within {first count : Byte} (hf : first.toNat ≤ 15) (h1 : 1 ≤ count.toNat) (h4 : count.toNat ≤ 4)
    (s : State) : judgeMarksRead first count s =
      (answerData (marksBytes ((s.engine.journal.marks.drop first.toNat).take count.toNat)), s) :=
  if_pos ⟨hf, h1, h4⟩

theorem judgeMarksRead_beyond {first count : Byte} (h : 15 < first.toNat ∨ count.toNat = 0 ∨ 4 < count.toNat)
    (s : State) : judgeMarksRead first count s = refuse .badArg s :=
  if_neg (by omega)

/-- The first element's epoch, when there is one, and then the elements (section 11.5). -/
theorem marksBytes_eq (ms : List MarkElement) :
    marksBytes ms = ((ms.take 1).flatMap fun m => bytes32 m.epoch) ++ ms.flatMap markBytes := by
  cases ms <;> simp [marksBytes]

theorem markBytes_eq (m : MarkElement) : markBytes m =
    bytes24 (BitVec.ofNat 24 (m.slot % 2 ^ 15 + 2 ^ 16 * m.sources.toNat)) ++ bytes32 m.sequence ++ bytes32 m.stamp := by
  rw [markBytes, Nat.mul_comm]

/-! ## CAPTURE_READ (R153, Table 11-11) -/

theorem judgeCaptureRead_slot (i : Fin Config.captureCount) (s : State) :
    judgeCaptureRead (BitVec.ofNat 8 i.val) s = (answerData (captureBytes s.captures[i]), s) := by
  rw [judgeCaptureRead, decodeCaptureSlot_code]

theorem judgeCaptureRead_beyond {slot : Byte} (h : 3 < slot.toNat) (s : State) :
    judgeCaptureRead slot s = refuse .badArg s := by
  rw [judgeCaptureRead, decodeCaptureSlot_beyond h]

/-- The presence byte as a sum of its bits (Table 11-11). -/
theorem presenceByte_eq (r : CaptureRecord) : presenceByte r = BitVec.ofNat 8 (1 + 2 * r.word.isSome.toNat +
    4 * r.writeData.isSome.toNat + 8 * r.region.isSome.toNat + 16 * r.faultCause.isSome.toNat +
    32 * r.sources.isSome.toNat) := by
  have bit : ∀ b : Bool, (if b = true then 1 else 0) = b.toNat := fun b => by cases b <;> rfl
  refine congrArg (BitVec.ofNat 8) ?_
  simp only [List.foldr_cons, List.foldr_nil, bit, Bool.toNat_true]
  ring

/-- The state byte: bit 7 LAPSED above the state's code (Table 11-11). -/
theorem stateByte_eq (e : EngineState) (lapsed : Bool) :
    byteOf e.code ||| (if lapsed then 0x80 else 0) = BitVec.ofNat 8 (e.code + 128 * lapsed.toNat) := by
  cases lapsed with
  | false => exact BitVec.or_zero
  | true => cases e <;> rfl

/-- The access byte: bit 7 set for a write, above the byte lanes (Table 11-11). -/
theorem accessByte_eq (w : WordDetail) :
    accessByte w = BitVec.ofNat 8 (128 * (if w.kind = .write then 1 else 0) + w.lanes.toNat) := by
  have write : ∀ l : Lanes, (0x80 ||| l.setWidth 8 : Byte) = BitVec.ofNat 8 (128 + l.toNat) := by decide
  have read : ∀ l : Lanes, (0 ||| l.setWidth 8 : Byte) = BitVec.ofNat 8 (0 + l.toNat) := by decide
  obtain ⟨address, kind, lanes⟩ := w
  cases kind with
  | write => exact write lanes
  | read => exact read lanes

/-- An address below 2^24 is shown as it is (Table 11-11). -/
theorem addressField_within {a : Nat} (h : a < 2 ^ 24) : addressField a = BitVec.ofNat 24 a := if_pos h

/-- A capture record's bytes, its bit fields as sums and its absent fields zero (Table 11-11). -/
theorem recordBytes_eq {r : CaptureRecord} (h : ∀ w, r.word = some w → w.address < 2 ^ 24) : recordBytes r =
    [BitVec.ofNat 8 (1 + 2 * r.word.isSome.toNat + 4 * r.writeData.isSome.toNat + 8 * r.region.isSome.toNat +
      16 * r.faultCause.isSome.toNat + 32 * r.sources.isSome.toNat), BitVec.ofNat 8 r.cause.code] ++ bytes32 r.stamp ++
    [BitVec.ofNat 8 (r.state.code + 128 * r.lapsed.toNat)] ++ bytes16 (BitVec.ofNat 16 r.fill) ++ bytes32 r.nextSequence ++
    bytes32 r.epoch ++
    (r.word.elim [0, 0, 0, 0] fun w => bytes24 (BitVec.ofNat 24 w.address) ++
      [BitVec.ofNat 8 (128 * (if w.kind = .write then 1 else 0) + w.lanes.toNat)]) ++
    bytes32 (r.writeData.getD 0) ++ [BitVec.ofNat 8 ((r.region.map (·.val)).getD 0),
      BitVec.ofNat 8 ((r.faultCause.map (·.code)).getD 0), BitVec.ofNat 8 (r.sources.getD 0).toNat] := by
  rw [recordBytes, presenceByte_eq, stateByte_eq, ← BitVec.ofNat_toNat]
  cases hword : r.word with
  | none => cases r.region <;> cases r.faultCause <;> rfl
  | some w =>
    simp only [addressField_within (h w hword), accessByte_eq]
    cases r.region <;> cases r.faultCause <;> rfl

/-- Settles O10: each read command's judgement, and its bytes as the tables lay them out. -/
theorem readsAnswerAndChangeNothing : Obligations.ReadsAnswerAndChangeNothing := by
  refine ⟨fun c s hc h => exec_of_readsOnly hc h, ?_⟩
  intro s h no u8 u16 shared
  refine ⟨fun i => ?_, fun i => ?_, fun index table hbad => ?_, fun r hr => ?_, fun hp => ?_, ?_, fun first count hbad => ?_,
    ?_, fun slot hbad => ?_⟩
  · exact exec_of_judgement h rfl rfl (judgeTableRead_active i s) rfl
  · exact exec_of_judgement h rfl rfl (judgeTableRead_staged i s) rfl
  · exact exec_of_judgement h rfl rfl (judgeTableRead_refused hbad s) rfl
  · rw [exec_of_judgement h rfl rfl (judgePeekRead_ready hr) rfl]
    obtain ⟨slot, validity, retained, words⟩ := r
    cases validity <;> rfl
  · exact exec_of_judgement h rfl rfl (judgePeekRead_notReady hp) rfl
  · intro first count hf h1 h4 found
    rw [exec_of_judgement h rfl rfl (judgeMarksRead_within hf h1 h4 s) rfl, marksBytes_eq, funext markBytes_eq]
    rfl
  · exact exec_of_judgement h rfl rfl (judgeMarksRead_beyond hbad s) rfl
  · intro i c header
    have hread : exec (.captureRead (u8 i.val)) s = .next (s.answered .ok (captureBytes c)) :=
      exec_of_judgement h rfl rfl (judgeCaptureRead_slot i s) rfl
    refine ⟨fun hc => ?_, fun r hc hw => ?_⟩
    · rw [hread, captureBytes, hc]
      rfl
    · rw [hread, captureBytes, hc]
      simp only [recordBytes_eq hw, List.append_assoc]
      cases r.word <;> rfl
  · exact exec_of_judgement h rfl rfl (judgeCaptureRead_beyond hbad s) rfl

end Sys2Proof.Machine
end

section
/-!
SUPPORT. What the operations do to the parts the conditions of `TouchedSetOk` and `HostWordOk` read: the tenancy an issued
access leaves, the touched set and LAPSED under each change of the journal, and the exclusive operation at its end.
-/
namespace Sys2Proof.Machine

/-! ## The tenancy an issued access leaves (R112) -/

@[simp] theorem issueAnchor_tenancy (w : Work) (f : AnchorFields) (s : State) :
    (issueAnchor w f s).port.tenancy = some (s.anchorWriting w (anchorCopy f s)) := rfl

@[simp] theorem issueSlotWrite_tenancy (w : Work) (n : Nat) (e : Entry) (s : State) :
    (issueSlotWrite w n e s).port.tenancy = some (s.slotWriting w n e) := rfl

@[simp] theorem issueReads_tenancy (w : Work) (a n : Nat) (s : State) :
    (issueReads w a n s).port.tenancy = some ⟨w, .read a n []⟩ := rfl

@[simp] theorem issueSlotRead_tenancy (w : Work) (n : Nat) (s : State) :
    (issueSlotRead w n s).port.tenancy = some ⟨w, .read (s.slotAddress n) 7 []⟩ := rfl

@[simp] theorem issueWrites_tenancy (w : Work) (a : Nat) (l : Lanes) (x : Word) (rest : List Word) (s : State) :
    (issueWrites w a l (x :: rest) s).port.tenancy = some ⟨w, .write a l x rest⟩ := rfl

@[simp] theorem issueClear_tenancy (w : Work) (a : Nat) (s : State) :
    (issueClear w a s).port.tenancy = some ⟨w, .write a allLanes 0 (List.replicate 7 0)⟩ := rfl

@[simp] theorem anchorWriting_work (w : Work) (c : AnchorCopy) (s : State) : (s.anchorWriting w c).work = w := rfl

@[simp] theorem slotWriting_work (w : Work) (n : Nat) (e : Entry) (s : State) : (s.slotWriting w n e).work = w := rfl

@[simp] theorem endTenancy_tenancy (s : State) : (endTenancy s).port.tenancy = none := rfl

@[simp] theorem grantTo_tenancy (x : Side) (s : State) : (grantTo x s).port.tenancy = s.port.tenancy := rfl

@[simp] theorem issueClear_frame (w : Work) (a : Nat) (s : State) :
    (issueClear w a s).engine = s.engine ∧ (issueClear w a s).host = s.host := by
  simp [issueClear]

/-! ## The touched set and LAPSED under each change of the journal (R60) -/

@[simp] theorem releaseOldest_touched (slots n : Nat) (j : Journal) : (j.releaseOldest slots n).touched = j.touched := by
  unfold Journal.releaseOldest
  split <;> rfl

@[simp] theorem releaseOldest_lapsed (slots n : Nat) (j : Journal) : (j.releaseOldest slots n).lapsed = j.lapsed := by
  unfold Journal.releaseOldest
  split <;> rfl

@[simp] theorem releaseAll_touched (j : Journal) : j.releaseAll.touched = [] := rfl

@[simp] theorem emptied_touched (j : Journal) : j.emptied.touched = [] := rfl

@[simp] theorem disarmed_touched (fresh : Bool) (j : Journal) : (j.disarmed fresh).touched = [] := rfl

@[simp] theorem appendMark_touched (slots : Nat) (x : SourceSet) (w : Word) (j : Journal) :
    (j.appendMark slots x w).touched = j.touched := rfl

@[simp] theorem appendMark_lapsed (slots : Nat) (x : SourceSet) (w : Word) (j : Journal) :
    (j.appendMark slots x w).lapsed = j.lapsed := rfl

@[simp] theorem accept_touched (slots n : Nat) (e : Entry) (j : Journal) : (j.accept slots n e).touched = j.touched := rfl

@[simp] theorem accept_lapsed (slots n : Nat) (e : Entry) (j : Journal) : (j.accept slots n e).lapsed = j.lapsed := rfl

@[simp] theorem cutTo_touched (slots : Nat) (r : RollbackRecord) (j : Journal) : (j.cutTo slots r).touched = [] := rfl

/-! ## The engine after each operation -/

@[simp] theorem anchorWritten_engine (s : State) :
    (anchorWritten s).engine = { s.engine with anchor := some s.engine.anchorTarget } := rfl

@[simp] theorem releaseEpochs_engine (n : Nat) (s : State) :
    (releaseEpochs n s).engine = { s.engine with journal := s.engine.journal.releaseOldest s.engine.slots n } := by
  simp [releaseEpochs]

@[simp] theorem releaseJournal_engine (s : State) :
    (releaseJournal s).engine = { s.engine with journal := s.engine.journal.releaseAll } := by
  simp [releaseJournal]

@[simp] theorem anchorFailure_engine (s : State) :
    (anchorFailure s).engine = { s.engine with state := .broken, journal := s.engine.journal.emptied } := by
  simp [anchorFailure]

@[simp] theorem appendMark_engine (x : SourceSet) (w : Word) (s : State) :
    (appendMark x w s).engine = { s.engine with journal := s.engine.journal.appendMark s.engine.slots x w } := by
  simp [appendMark]

@[simp] theorem dequeueJob_engine (s : State) : (dequeueJob s).engine = { s.engine with jobs := s.engine.jobs.tail } := rfl

/-- The end of an exclusive operation keeps the engine state and the journal, and no exclusive operation runs (R91). -/
@[simp] theorem endExclusive_engine (s : State) :
    (endExclusive s).engine.state = s.engine.state ∧ (endExclusive s).engine.journal = s.engine.journal ∧
    (endExclusive s).engine.exclusive = none := by
  unfold endExclusive
  (repeat' split) <;> simp

end Sys2Proof.Machine
end

section
/-!
PROOFS. Every step keeps the touched set within its bounds and states (R60).
-/
namespace Sys2Proof.Machine

/-! ## What keeps the condition -/

/-- The change leaves the engine state alone, keeps the touched set without entering LAPSED or empties it, and lets FORMAT and
the anchor reads go on as they were or work outside ARMED. -/
structure TouchedKept (s t : State) : Prop where
  state : t.engine.state = s.engine.state
  touched : t.engine.journal.touched = [] ∨ t.engine.journal.touched = s.engine.journal.touched ∧
    (s.engine.journal.lapsed = false → t.engine.journal.lapsed = false)
  exclusive : t.engine.exclusive = s.engine.exclusive ∨
    ∀ p, t.engine.exclusive = some (.format p) → s.engine.state ≠ .armed
  tenancy : t.port.tenancy = s.port.tenancy ∨
    ∀ x, t.port.tenancy = some x → x.work.ofFormatOrAnchorRead = true → s.engine.state ≠ .armed

theorem TouchedSetOk.of_kept {s t : State} (h : TouchedSetOk s) (k : TouchedKept s t) : TouchedSetOk t := by
  obtain ⟨hnodup, hlength, harmed, hformat, hwork⟩ := h
  obtain ⟨kstate, ktouched, kexclusive, ktenancy⟩ := k
  refine ⟨?_, ?_, ?_, fun p hp => ?_, fun x hx hw => ?_⟩
  · obtain he | ⟨he, -⟩ := ktouched <;> simp [he, hnodup]
  · obtain he | ⟨he, -⟩ := ktouched <;> simp [he, hlength]
  · intro hne
    obtain he | ⟨he, hl⟩ := ktouched
    · exact absurd he hne
    · obtain ⟨ha, hf⟩ := harmed (he ▸ hne)
      exact ⟨kstate.trans ha, hl hf⟩
  · rw [kstate]
    exact kexclusive.elim (fun he => hformat p (he ▸ hp)) fun he => he p hp
  · rw [kstate]
    exact ktenancy.elim (fun he => hwork x (he ▸ hx) hw) fun he => he x hx hw

/-- Outside ARMED an empty touched set is all the condition asks for. -/
theorem touchedSetOk_of_not_armed {t : State} (ht : t.engine.journal.touched = []) (hs : t.engine.state ≠ .armed) :
    TouchedSetOk t :=
  ⟨by simp [ht], by simp [ht], fun h => absurd ht h, fun _ _ => hs, fun _ _ _ => hs⟩

/-- With an empty touched set the engine may be ARMED while no exclusive operation and no tenancy is in progress. -/
theorem touchedSetOk_of_quiet {t : State} (ht : t.engine.journal.touched = []) (hx : t.engine.exclusive = none)
    (hp : t.port.tenancy = none) : TouchedSetOk t :=
  ⟨by simp [ht], by simp [ht], fun h => absurd ht h, by simp [hx], by simp [hp]⟩

/-- Outside ARMED the touched set is empty (R60). -/
theorem TouchedSetOk.touched_empty {s : State} (h : TouchedSetOk s) (hs : s.engine.state ≠ .armed) :
    s.engine.journal.touched = [] := by
  obtain ⟨-, -, harmed, -, -⟩ := h
  by_contra hne
  exact hs (harmed hne).1

/-- FORMAT and the anchor reads hold the port outside ARMED alone. -/
theorem TouchedSetOk.not_armed_of_work {s : State} (h : TouchedSetOk s) {x : Tenancy} (hx : s.port.tenancy = some x)
    (hw : x.work.ofFormatOrAnchorRead = true) : s.engine.state ≠ .armed := by
  obtain ⟨-, -, -, -, hwork⟩ := h
  exact hwork x hx hw

theorem TouchedKept.refl (s : State) : TouchedKept s s := ⟨rfl, .inr ⟨rfl, id⟩, .inl rfl, .inl rfl⟩

theorem TouchedKept.trans {s t u : State} (h : TouchedKept s t) (k : TouchedKept t u) : TouchedKept s u := by
  obtain ⟨hstate, htouched, hexclusive, htenancy⟩ := h
  obtain ⟨kstate, ktouched, kexclusive, ktenancy⟩ := k
  rw [hstate] at kstate kexclusive ktenancy
  refine ⟨kstate, ?_, ?_, ?_⟩
  · obtain ke | ⟨ke, kl⟩ := ktouched
    · exact .inl ke
    · obtain he | ⟨he, hl⟩ := htouched
      · exact .inl (ke.trans he)
      · exact .inr ⟨ke.trans he, fun hf => kl (hl hf)⟩
  · obtain ke | ke := kexclusive
    · rw [ke]
      exact hexclusive
    · exact .inr ke
  · obtain ke | ke := ktenancy
    · rw [ke]
      exact htenancy
    · exact .inr ke

/-- A change that leaves the engine state, the journal, the exclusive operation and the memory port alone. -/
theorem TouchedKept.of_eq {s t : State} (he : t.engine.state = s.engine.state ∧ t.engine.journal = s.engine.journal ∧
    t.engine.exclusive = s.engine.exclusive ∧ t.port.tenancy = s.port.tenancy) : TouchedKept s t := by
  obtain ⟨hs, hj, hx, hp⟩ := he
  exact ⟨hs, .inr ⟨by rw [hj], fun h => by rw [hj, h]⟩, .inl hx, .inl hp⟩

/-- A tenancy given back with the engine as it was. -/
theorem TouchedKept.of_ended {s t : State} (he : t.engine.state = s.engine.state ∧ t.engine.journal = s.engine.journal ∧
    t.engine.exclusive = s.engine.exclusive ∧ t.port.tenancy = none) : TouchedKept s t := by
  obtain ⟨hs, hj, hx, hp⟩ := he
  exact ⟨hs, .inr ⟨by rw [hj], fun h => by rw [hj, h]⟩, .inl hx, .inr (by simp [hp])⟩

/-- An access issued for a step that is not FORMAT's and no anchor read. -/
theorem TouchedKept.of_issued {s t : State} {x : Tenancy} (he : t.engine = s.engine) (ht : t.port.tenancy = some x)
    (hx : x.work.ofFormatOrAnchorRead = false) : TouchedKept s t := by
  refine ⟨by rw [he], .inr ⟨by rw [he], fun h => by rw [he, h]⟩, .inl (by rw [he]), .inr fun y hy hw => ?_⟩
  rw [ht, Option.some.injEq] at hy
  subst hy
  exact absurd hw (by simp [hx])

/-- An access of FORMAT's or an anchor read is issued outside ARMED. -/
theorem TouchedKept.of_issued_outside {s t : State} (hs : s.engine.state ≠ .armed) (he : t.engine = s.engine) :
    TouchedKept s t :=
  ⟨by rw [he], .inr ⟨by rw [he], fun h => by rw [he, h]⟩, .inl (by rw [he]), .inr fun _ _ _ => hs⟩

/-- The touched set emptied, or an entry appended or released, with the rest of the engine and the port as they were. -/
theorem TouchedKept.of_journal {s t : State} (j : Journal) (he : t.engine = { s.engine with journal := j })
    (ht : t.port.tenancy = s.port.tenancy) (hj : j.touched = [] ∨ j.touched = s.engine.journal.touched ∧
      (s.engine.journal.lapsed = false → j.lapsed = false)) : TouchedKept s t :=
  ⟨by rw [he], by rw [he]; exact hj, .inl (by rw [he]), .inl ht⟩

/-! ## The engine's shared operations -/

theorem setFlag_touchedKept (f : Flag) (s : State) : TouchedKept s (setFlag f s) := .of_eq (by simp)

theorem anchorWritten_touchedKept (s : State) : TouchedKept s (anchorWritten s) := .of_eq ⟨rfl, rfl, rfl, rfl⟩

theorem endTenancy_touchedKept (s : State) : TouchedKept s (endTenancy s) := .of_ended ⟨rfl, rfl, rfl, rfl⟩

theorem releaseEpochs_touchedKept (n : Nat) (s : State) : TouchedKept s (releaseEpochs n s) :=
  .of_journal _ (releaseEpochs_engine n s) (by simp) (.inr (by simp))

theorem releaseJournal_touchedKept (s : State) : TouchedKept s (releaseJournal s) :=
  .of_journal _ (releaseJournal_engine s) (by simp) (.inl rfl)

theorem appendMark_touchedKept (x : SourceSet) (w : Word) (s : State) : TouchedKept s (appendMark x w s) :=
  .of_journal _ (appendMark_engine x w s) (by simp) (.inr (by simp))

theorem clearLapsed_touchedKept (s : State) : TouchedKept s (clearLapsed s) :=
  .of_journal _ rfl rfl (.inr ⟨rfl, fun _ => rfl⟩)

/-- The end of an exclusive operation (R91). -/
theorem endExclusive_touchedKept (s : State) : TouchedKept s (endExclusive s) := by
  obtain ⟨hs, hj, hx⟩ := endExclusive_engine s
  exact ⟨hs, .inr ⟨by rw [hj], fun h => by rw [hj, h]⟩, .inr (by simp), .inl (by simp)⟩

/-- A failed anchor write leaves the engine in BROKEN with an empty touched set (R127). -/
theorem anchorFailure_touchedSetOk (s : State) : TouchedSetOk (anchorFailure s) :=
  touchedSetOk_of_not_armed (by simp) (by simp)

/-! ## The host port -/

theorem finishWord_touchedKept (a : WordResult) (s : State) : TouchedKept s (finishWord a s) :=
  .of_ended (by simp [finishWord])

theorem holdWord_touchedKept (s : State) : TouchedKept s (holdWord s) :=
  .of_ended ⟨by simp, by simp, by simp, by unfold holdWord; split <;> simp⟩

/-- The work of a granted word's tenancy goes on, or the port is given back. -/
theorem withWord_touchedKept {f : HostAccess → State → State} {s : State} (hf : ∀ c, TouchedKept s (f c s)) :
    TouchedKept s (withWord f s) := by
  unfold withWord
  split
  · exact hf _
  · exact endTenancy_touchedKept s

theorem forwardWrite_touchedKept (c : HostAccess) (s : State) : TouchedKept s (forwardWrite c s) := .of_issued rfl rfl rfl

theorem releaseOrLose_touchedKept (s : State) : TouchedKept s (releaseOrLose s) := by
  unfold releaseOrLose
  split
  · exact .of_issued rfl rfl rfl
  · exact .of_issued rfl rfl rfl

theorem roomAgain_touchedKept (c : HostAccess) (s : State) : TouchedKept s (roomAgain c s) := by
  unfold roomAgain
  split
  · exact .of_issued rfl rfl rfl
  · split
    · exact holdWord_touchedKept s
    · exact releaseOrLose_touchedKept s

/-- LAPSED is entered with the journal just dropped (R27). -/
theorem lapse_touchedKept (s : State) : TouchedKept s (lapse (releaseJournal s)) :=
  .of_journal { s.engine.journal.releaseAll with lapsed := true } (by simp [lapse]) (by simp [lapse]) (.inl rfl)

/-- An address that joins the touched set leaves it without duplicates and within its capacity (R60). -/
theorem touchedInsert_ok {a : Nat} {t : List Nat} (hn : t.Nodup) (hl : t.length ≤ 64) :
    (touchedInsert a t).Nodup ∧ (touchedInsert a t).length ≤ 64 := by
  have hjoin : ∀ u : List Nat, u.Nodup → a ∉ u → (u ++ [a]).Nodup := fun u hu ha =>
    List.nodup_append.2 ⟨hu, List.nodup_singleton a, fun x hx y hy => by
      rw [List.mem_singleton.1 hy]
      exact fun he => ha (he ▸ hx)⟩
  unfold touchedInsert
  split
  · exact ⟨hn, hl⟩
  · rename_i ha
    split
    · rename_i hlt
      exact ⟨hjoin t hn ha, by simpa using hlt⟩
    · refine ⟨hjoin t.tail hn.tail fun hm => ha (List.mem_of_mem_tail hm), ?_⟩
      simp only [List.length_append, List.length_tail, List.length_singleton]
      omega

/-- The advance of an UNDO append: the address joins only while ARMED and not LAPSED (R14, R60, R96). -/
theorem TouchedSetOk.advanced {s : State} (h : TouchedSetOk s) (c : HostAccess) : TouchedSetOk (undoAdvance c s) := by
  obtain ⟨hnodup, hlength, harmed, hformat, hwork⟩ := h
  simp only [TouchedSetOk, undoAdvance, State.withJournal_engine, State.withJournal_port, Journal.appendUndo]
  split
  · rename_i hin
    have hstate : s.engine.state = .armed ∧ s.engine.journal.lapsed = false := by simpa using hin
    obtain ⟨hnodup', hlength'⟩ := touchedInsert_ok (a := c.wordAddress) hnodup hlength
    exact ⟨hnodup', hlength', fun _ => hstate, hformat, hwork⟩
  · exact ⟨hnodup, hlength, harmed, hformat, hwork⟩

/-- An UNDO entry written, and the host's write issued (R14, R59). -/
theorem TouchedSetOk.hostUndo {s : State} (h : TouchedSetOk s) : TouchedSetOk (hostUndoDone s) := by
  unfold hostUndoDone withWord
  split
  · rename_i c _
    refine (h.advanced c).of_kept (.trans (t := checkWatermark (countFor .undo c.grant (undoAdvance c s))) ?_
      (forwardWrite_touchedKept c _))
    exact .of_eq (by simp)
  · exact h.of_kept (endTenancy_touchedKept s)

/-! ## Marks and arming -/

theorem markFinish_touchedKept (x : SourceSet) (s : State) : TouchedKept s (markFinish x s) :=
  .trans (endTenancy_touchedKept s) (.of_journal { s.engine.journal with touched := [] } (by simp [markFinish, emptyTouched])
    (by simp [markFinish, emptyTouched]) (.inl rfl))

theorem markLimitStep_touchedKept (x : SourceSet) (k : Nat) (s : State) : TouchedKept s (markLimitStep x k s) := by
  unfold markLimitStep
  split
  · exact .of_issued rfl rfl rfl
  · exact markFinish_touchedKept x s

theorem markAfterAppend_touchedKept (x : SourceSet) (k : Nat) (s : State) : TouchedKept s (markAfterAppend x k s) := by
  unfold markAfterAppend
  split
  · exact .of_issued rfl rfl rfl
  · exact markLimitStep_touchedKept x k s

/-- The engine becomes ARMED with an empty touched set, no exclusive operation and no tenancy (R88). -/
theorem armAnchorDone_touchedSetOk (action : RestartAction) (count : Nat) (s : State) :
    TouchedSetOk (armAnchorDone action count s) := by
  have htimer : ∀ u : State, (armTimer u).engine = u.engine ∧ (armTimer u).port = u.port := fun u => by
    unfold armTimer
    split <;> simp
  have hrelease : ∀ u : State, (armRelease count u).port = u.port := fun u => by
    unfold armRelease
    split <;> simp
  exact touchedSetOk_of_quiet (by simp [armAnchorDone, htimer, becomeArmed]) (by simp [armAnchorDone])
    (by simp [armAnchorDone, htimer, becomeArmed, hrelease])

/-! ## Rollback and recovery -/

theorem rollbackFails_touchedKept (s : State) : TouchedKept s (rollbackFails s) := by
  unfold rollbackFails
  split
  · exact .of_issued rfl rfl rfl
  · exact endTenancy_touchedKept s

theorem restoreComplete_touchedKept (link : Word) (s : State) : TouchedKept s (restoreComplete link s) := by
  unfold restoreComplete
  split
  · exact .of_ended ⟨rfl, rfl, rfl, rfl⟩
  · exact endTenancy_touchedKept s

theorem restoreReadDone_touchedKept (ws : List Word) (s : State) : TouchedKept s (restoreReadDone ws s) := by
  have hdamaged : TouchedKept s (rollbackFails (setFlag .journalDamaged s)) :=
    .trans (setFlag_touchedKept _ _) (rollbackFails_touchedKept _)
  unfold restoreReadDone
  split
  · split
    · unfold restoreAction
      split
      · exact .of_issued rfl rfl rfl
      · exact restoreComplete_touchedKept _ s
    · exact hdamaged
  · exact hdamaged
  · exact endTenancy_touchedKept s

/-- A rollback's end keeps the state, the journal and the port its owner left, and an exclusive operation ends with it. -/
theorem endRollback_engine (origin : RollbackOrigin) (s : State) :
    (endRollback origin s).engine.state = s.engine.state ∧ (endRollback origin s).engine.journal = s.engine.journal ∧
    (endRollback origin s).port = s.port ∧
    (origin ≠ .recovery → (endRollback origin s).engine.exclusive = none) := by
  cases origin <;> simp [endRollback]

theorem wakeUnlessRecovery_frame (origin : RollbackOrigin) (s : State) :
    (wakeUnlessRecovery origin s).engine = s.engine ∧ (wakeUnlessRecovery origin s).port = s.port := by
  cases origin <;> simp [wakeUnlessRecovery]

/-- A rollback that ends in BROKEN leaves the touched set empty (R104). -/
theorem TouchedSetOk.broken {s : State} (h : TouchedSetOk s) : TouchedSetOk (rollbackBroken s) := by
  unfold rollbackBroken
  split
  · exact touchedSetOk_of_not_armed (by simp [endRollback_engine, wakeUnlessRecovery_frame])
      (by simp [endRollback_engine, wakeUnlessRecovery_frame])
  · exact h.of_kept (endTenancy_touchedKept s)

/-- A settled rollback leaves the touched set empty; it returns to ARMED with no exclusive operation and no tenancy (R102). -/
theorem TouchedSetOk.settled {s : State} (h : TouchedSetOk s) : TouchedSetOk (settleAnchorDone s) := by
  unfold settleAnchorDone
  split
  · rename_i r _
    cases ho : r.origin with
    | armed =>
      exact touchedSetOk_of_quiet (by simp [endRollback_engine, wakeUnlessRecovery_frame])
        ((endRollback_engine .armed _).2.2.2 (by simp)) (by simp [endRollback_engine, wakeUnlessRecovery_frame])
    | disarmed | recovery =>
      exact touchedSetOk_of_not_armed (by simp [endRollback_engine, wakeUnlessRecovery_frame])
        (by simp [endRollback_engine, wakeUnlessRecovery_frame, RollbackOrigin.settledState])
  · exact h.of_kept (endTenancy_touchedKept s)

/-- Recovery that ends in BROKEN leaves the touched set empty (R136). -/
theorem recoveryBroken_touchedSetOk (s : State) : TouchedSetOk (recoveryBroken s) :=
  touchedSetOk_of_not_armed (by simp [recoveryBroken]) (by simp [recoveryBroken])

/-- A rollback that recovery begins empties the touched set (R110, R139). -/
theorem beginRecoveryRollback_touchedSetOk (phase : RollbackPhase) (m : MarkElement) (s : State) :
    TouchedSetOk (beginRecoveryRollback phase m s) :=
  touchedSetOk_of_not_armed rfl (by simp [beginRecoveryRollback, beginRolling])

/-- The scan completed, recovery goes on outside ARMED with the touched set empty (R138, R139). -/
theorem scanComplete_touchedSetOk (f : AnchorCopy) (next : Word) (s : State) : TouchedSetOk (scanComplete f next s) := by
  have hdisarmed : ∀ u : State, u.engine.journal.touched = [] → TouchedSetOk (recoveryDisarmed u) := fun u hu =>
    touchedSetOk_of_not_armed (by simp [recoveryDisarmed, hu]) (by simp [recoveryDisarmed])
  unfold scanComplete recoveryOutcome
  split
  · exact hdisarmed _ rfl
  · exact hdisarmed _ rfl
  · unfold revertToNewest
    split
    · exact beginRecoveryRollback_touchedSetOk _ _ _
    · exact recoveryBroken_touchedSetOk _
  · unfold resumeRolling
    split
    · exact beginRecoveryRollback_touchedSetOk _ _ _
    · exact recoveryBroken_touchedSetOk _
  · exact hdisarmed _ rfl
  · exact recoveryBroken_touchedSetOk _

theorem TouchedSetOk.scanAccept {s : State} (h : TouchedSetOk s) (f : AnchorCopy) (slot : Nat) (e : Entry) :
    TouchedSetOk (scanAccept f slot e s) := by
  unfold Machine.scanAccept
  split
  · exact h.of_kept ⟨rfl, .inr ⟨rfl, id⟩, .inl rfl, .inl rfl⟩
  · exact scanComplete_touchedSetOk _ _ _

/-- A slot read by the scan: accepted, the end of the scan, or BROKEN (R137). -/
theorem TouchedSetOk.scanned {s : State} (h : TouchedSetOk s) (f : AnchorCopy) (slot : Nat) (ws : List Word) :
    TouchedSetOk (scanDone f slot ws s) := by
  have hend := h.of_kept (endTenancy_touchedKept s)
  unfold scanDone
  split
  · unfold scanHead
    split
    · split
      · exact hend.scanAccept _ _ _
      · exact recoveryBroken_touchedSetOk _
    · exact recoveryBroken_touchedSetOk _
  · unfold scanNext
    split
    · split
      · exact hend.scanAccept _ _ _
      · exact scanComplete_touchedSetOk _ _ _
    · exact scanComplete_touchedSetOk _ _ _

/-- Both copies read outside ARMED, recovery goes on outside ARMED, the touched set being empty (R135, R136). -/
theorem TouchedSetOk.anchorsRead {s : State} (h : TouchedSetOk s) (hs : s.engine.state ≠ .armed) (a b : CopyReading) :
    TouchedSetOk (copyBRead a b s) := by
  have hempty := h.touched_empty hs
  have hdecision : ∀ f u, u.engine.state = s.engine.state → u.engine.journal = s.engine.journal →
      TouchedSetOk (recoveryDecision f u) := by
    intro f u hstate hjournal
    unfold recoveryDecision
    split
    · exact recoveryBroken_touchedSetOk u
    · exact touchedSetOk_of_not_armed (by simp [freshJournal]) (by simp)
    all_goals exact touchedSetOk_of_not_armed (by simp [hjournal, hempty]) (by simp [hstate, hs])
  unfold copyBRead Machine.anchorsRead
  split
  · exact hdecision _ _ (by simp [adoptAnchor]) (by simp [adoptAnchor])
  · exact recoveryBroken_touchedSetOk _
  · exact touchedSetOk_of_not_armed (by simp [hempty]) (by simp)

/-! ## FORMAT -/

/-- A FORMAT that fails leaves the part UNFORMATTED with an empty touched set (R133). -/
theorem formatFailed_touchedSetOk (s : State) : TouchedSetOk (formatFailed s) :=
  touchedSetOk_of_not_armed (by simp [formatFailed]) (by simp [formatFailed])

/-! ## Memory's answers -/

/-- A step whose accesses were all answered OK keeps the condition. -/
theorem TouchedSetOk.completeWork {s : State} (h : TouchedSetOk s) {w : Work} {x : Transfer}
    (ht : s.port.tenancy = some ⟨w, x⟩) (ws : List Word) : TouchedSetOk (completeWork w ws s) := by
  have houtside : w.ofFormatOrAnchorRead = true → s.engine.state ≠ .armed := h.not_armed_of_work ht
  cases w with
  | hostRead | hostWrite => exact h.of_kept (finishWord_touchedKept _ s)
  | hostFirstWrite =>
    refine h.of_kept (.trans ?_ (withWord_touchedKept fun c => forwardWrite_touchedKept c _))
    exact .trans (anchorWritten_touchedKept s) (.trans (releaseJournal_touchedKept _) (setFlag_touchedKept .journalDropped _))
  | hostRelease =>
    refine h.of_kept (.trans ?_ (withWord_touchedKept fun c => roomAgain_touchedKept c _))
    exact .trans (anchorWritten_touchedKept s) (releaseEpochs_touchedKept 1 _)
  | hostLose =>
    refine h.of_kept (.trans ?_ (withWord_touchedKept fun c => forwardWrite_touchedKept c _))
    exact .trans (anchorWritten_touchedKept s) (lapse_touchedKept _)
  | hostOldValue => exact h.of_kept (withWord_touchedKept fun c => .of_issued rfl rfl rfl)
  | hostUndo => exact h.hostUndo
  | markRoom sources limit =>
    exact h.of_kept (.trans (anchorWritten_touchedKept s) (.trans (releaseEpochs_touchedKept 1 _) (.of_issued rfl rfl rfl)))
  | markAppend sources limit stamp =>
    exact h.of_kept (.trans (appendMark_touchedKept _ _ s) (markAfterAppend_touchedKept _ _ _))
  | markLapseEnd sources limit =>
    exact h.of_kept (.trans (anchorWritten_touchedKept s) (.trans (clearLapsed_touchedKept _) (markLimitStep_touchedKept _ _ _)))
  | markLimit sources count =>
    exact h.of_kept (.trans (anchorWritten_touchedKept s) (.trans (releaseEpochs_touchedKept _ _) (markFinish_touchedKept _ _)))
  | armRoom action limit =>
    exact h.of_kept (.trans (anchorWritten_touchedKept s) (.trans (releaseEpochs_touchedKept 1 _) (.of_issued rfl rfl rfl)))
  | armAppend action limit stamp => exact h.of_kept (.trans (appendMark_touchedKept _ _ s) (.of_issued rfl rfl rfl))
  | armAnchor action count => exact armAnchorDone_touchedSetOk action count s
  | disarm fresh =>
    exact touchedSetOk_of_not_armed (by simp [Machine.completeWork, disarmDone]) (by simp [Machine.completeWork, disarmDone])
  | release count =>
    refine h.of_kept (.trans (endTenancy_touchedKept s) (.trans (anchorWritten_touchedKept _) ?_))
    exact .trans (releaseEpochs_touchedKept count _) (setFlag_touchedKept .releaseDone _)
  | discard =>
    refine h.of_kept (.trans (endTenancy_touchedKept s) (.trans (anchorWritten_touchedKept _) ?_))
    exact .trans (releaseJournal_touchedKept _) (.trans (setFlag_touchedKept .releaseDone _) (endExclusive_touchedKept _))
  | rollbackAnchor =>
    refine h.of_kept (.of_ended ?_)
    simp only [Machine.completeWork, rollbackAnchorDone]
    split <;> simp
  | restoreRead => exact h.of_kept (restoreReadDone_touchedKept ws s)
  | restoreWrite link => exact h.of_kept (restoreComplete_touchedKept link s)
  | settleVoid =>
    refine h.of_kept ?_
    simp only [Machine.completeWork, settleVoidDone]
    split
    · exact .of_issued rfl rfl rfl
    · exact endTenancy_touchedKept s
  | settleAnchor => exact h.settled
  | brokenAnchor => exact (h.of_kept (anchorWritten_touchedKept s)).broken
  | clearFirst second => exact h.of_kept (.of_issued_outside (houtside rfl) rfl)
  | clearSecond => exact touchedSetOk_of_not_armed (h.touched_empty (houtside rfl)) (houtside rfl)
  | clearSlot slot => exact touchedSetOk_of_not_armed (h.touched_empty (houtside rfl)) (houtside rfl)
  | formatAnchor =>
    exact touchedSetOk_of_not_armed (by simp [Machine.completeWork, formatDone, h.touched_empty (houtside rfl)])
      (by simp [Machine.completeWork, formatDone])
  | readCopyA => exact touchedSetOk_of_not_armed (h.touched_empty (houtside rfl)) (houtside rfl)
  | readCopyB a => exact h.anchorsRead (houtside rfl) a _
  | scan anchor slot => exact h.scanned anchor slot ws
  | peek slot retained => exact h.of_kept (.of_ended (by simp [Machine.completeWork, peekDone, finishPeek]))

/-- A step failed by an access answered ERROR keeps the condition. -/
theorem TouchedSetOk.failWork {s : State} (h : TouchedSetOk s) {w : Work} {x : Transfer}
    (ht : s.port.tenancy = some ⟨w, x⟩) : TouchedSetOk (failWork w s) := by
  have houtside : w.ofFormatOrAnchorRead = true → s.engine.state ≠ .armed := h.not_armed_of_work ht
  have hflag : ∀ f, TouchedSetOk (setFlag f s) := fun f => h.of_kept (setFlag_touchedKept f s)
  cases w with
  | hostRead | hostWrite | hostOldValue | hostUndo => exact h.of_kept (finishWord_touchedKept _ s)
  | hostFirstWrite | hostRelease | hostLose => exact (anchorFailure_touchedSetOk s).of_kept (finishWord_touchedKept _ _)
  | markRoom | markLapseEnd | markLimit =>
    exact (anchorFailure_touchedSetOk s).of_kept (.of_ended (by simp [Machine.failWork, markAnchorFailed]))
  | markAppend => exact h.of_kept (.of_ended (by simp [Machine.failWork, markAppendFailed]))
  | armRoom | armAnchor =>
    exact touchedSetOk_of_not_armed (by simp [Machine.failWork, armAnchorFailed]) (by simp [Machine.failWork, armAnchorFailed])
  | armAppend =>
    refine h.of_kept (.trans (t := setFlag .markMissed (setFlag .memoryFault (endTenancy s))) ?_ (endExclusive_touchedKept _))
    exact .of_ended (by simp)
  | disarm => exact touchedSetOk_of_not_armed (by simp [Machine.failWork, disarmFailed]) (by simp [Machine.failWork, disarmFailed])
  | release => exact (anchorFailure_touchedSetOk s).of_kept (endTenancy_touchedKept _)
  | discard =>
    exact touchedSetOk_of_not_armed (by simp [Machine.failWork, discardFailed]) (by simp [Machine.failWork, discardFailed])
  | rollbackAnchor | settleAnchor =>
    exact (hflag .memoryFault).of_kept (.trans (setFlag_touchedKept .anchorFault _) (rollbackFails_touchedKept _))
  | restoreRead | restoreWrite | settleVoid =>
    exact (hflag .memoryFault).of_kept (rollbackFails_touchedKept _)
  | brokenAnchor => exact (hflag .anchorFault).broken
  | clearFirst | clearSecond | clearSlot => exact formatFailed_touchedSetOk s
  | formatAnchor => exact formatFailed_touchedSetOk _
  | readCopyA => exact touchedSetOk_of_not_armed (h.touched_empty (houtside rfl)) (houtside rfl)
  | readCopyB a => exact (hflag .memoryFault).anchorsRead (houtside rfl) a .unreadable
  | scan => exact recoveryBroken_touchedSetOk _
  | peek => exact h.of_kept (.of_ended (by simp [Machine.failWork, peekFailed, finishPeek]))

end Sys2Proof.Machine
end

section
/-!
SUPPORT. The commands of the link and the mark sources' happenings: which leave the two ports, the engine state and the journal
alone (R168, R179).
-/
namespace Sys2Proof.Machine

/-- The change leaves the host port, the memory port, the engine state and the in-chip journal alone, and begins no FORMAT. -/
structure Aside (s t : State) : Prop where
  host : t.host = s.host
  port : t.port = s.port
  state : t.engine.state = s.engine.state
  journal : t.engine.journal = s.engine.journal
  exclusive : t.engine.exclusive = s.engine.exclusive ∨ ∀ p, t.engine.exclusive ≠ some (.format p)

theorem Aside.refl (s : State) : Aside s s := ⟨rfl, rfl, rfl, rfl, .inl rfl⟩

theorem Aside.trans {s t u : State} (h : Aside s t) (k : Aside t u) : Aside s u := by
  obtain ⟨hhost, hport, hstate, hjournal, hexclusive⟩ := h
  obtain ⟨khost, kport, kstate, kjournal, kexclusive⟩ := k
  refine ⟨khost.trans hhost, kport.trans hport, kstate.trans hstate, kjournal.trans hjournal, ?_⟩
  obtain ke | ke := kexclusive
  · rw [ke]
    exact hexclusive
  · exact .inr ke

theorem Aside.withLink {s t : State} (h : Aside s t) (l : Link) : Aside s (t.withLink l) := by
  obtain ⟨hhost, hport, hstate, hjournal, hexclusive⟩ := h
  exact ⟨hhost, hport, hstate, hjournal, hexclusive⟩

/-- A change outside the engine and the two ports. -/
theorem Aside.of_eq {s t : State} (h : t.host = s.host ∧ t.port = s.port ∧ t.engine.state = s.engine.state ∧
    t.engine.journal = s.engine.journal ∧ t.engine.exclusive = s.engine.exclusive) : Aside s t := by
  obtain ⟨hhost, hport, hstate, hjournal, hexclusive⟩ := h
  exact ⟨hhost, hport, hstate, hjournal, .inl hexclusive⟩

theorem Aside.touchedKept {s t : State} (h : Aside s t) : TouchedKept s t := by
  obtain ⟨-, hport, hstate, hjournal, hexclusive⟩ := h
  exact ⟨hstate, .inr ⟨by rw [hjournal], fun hl => by rw [hjournal, hl]⟩,
    hexclusive.imp id fun hx p hp => absurd hp (hx p), .inl (by rw [hport])⟩

/-! ## What taking a command leaves (R168, R172, R180, R181) -/

/-- What a command leaves is what was there, or what its judgement leaves, with the link's frame moved on. -/
theorem serve_leaves {P : State → Prop} {c : Instr} {judge : State → Response × State} {s t : State}
    (h : serve c judge s = .next t) (hs : P s) (hj : P (judge s).2) (hl : ∀ u l, P u → P (u.withLink l)) : P t := by
  simp only [serve, Host.Outcome.next.injEq] at h
  subst h
  split
  · exact hl _ _ hj
  · exact hs

theorem unlessHalted_leaves {P : State → Prop} {judge : State → Response × State} {s : State} (hs : P s)
    (hj : P (judge s).2) : P (unlessHalted judge s).2 := by
  unfold unlessHalted
  split
  · exact hs
  · exact hj

theorem engineCommand_leaves {P : State → Prop} {judge : State → Response × State} {s : State} (hs : P s)
    (hj : P (judge s).2) : P (engineCommand judge s).2 := by
  refine unlessHalted_leaves hs ?_
  unfold unlessRestarting
  split
  · exact hs
  · exact hj

theorem serve_aside {c : Instr} {judge : State → Response × State} {s t : State} (h : serve c judge s = .next t)
    (hj : Aside s (judge s).2) : Aside s t :=
  serve_leaves h (Aside.refl s) hj fun _ l hu => hu.withLink l

/-! ## The judgements -/

theorem OnlyReads.aside {s : State} {p : Response × State} (h : OnlyReads s p) : Aside s p.2 := by
  cases h with
  | data bs => exact Aside.refl s
  | refused x => exact Aside.refl s

/-- Every item but the hold limit (Table 10-5). -/
theorem itemSet_aside {item : Byte} {v : Word} {s t : State} (h5 : item.toNat ≠ 5) (h : itemSet item v s = some t) :
    Aside s t := by
  unfold itemSet at h
  split at h
  case h_5 heq => exact absurd heq h5
  case h_11 => cases h
  all_goals
    obtain ⟨x, -, rfl⟩ := Option.map_eq_some_iff.1 h
    exact .of_eq (by simp [setPolicy, setWatermark, setRetainedLimit, setDefaultMode, setTimerMode, setTimerPeriod, setLineEdge,
      setLineFilter, setEnables])

theorem judgeSet_aside {item : Byte} (h5 : item.toNat ≠ 5) (v : Word) (s : State) : Aside s (judgeSet item v s).2 := by
  unfold judgeSet
  split
  · rename_i t ht
    exact itemSet_aside h5 ht
  · exact Aside.refl s

theorem judgeTableWrite_aside (index : Byte) (mask : BitVec 16) (f : TableFields) (s : State) :
    Aside s (judgeTableWrite index mask f s).2 := by
  unfold judgeTableWrite
  split
  · split
    · exact .of_eq (by simp [setStaged])
    · exact Aside.refl s
  · exact Aside.refl s

theorem judgeInstall_aside (s : State) : Aside s (judgeInstall s).2 := by
  unfold judgeInstall
  split
  case h_1 | h_2 | h_3 | h_4 => exact .of_eq (by simp)
  all_goals exact Aside.refl s

/-- A refusal while other work bars the command, else what the command leaves (R117). -/
theorem aside_unless {s : State} {b : Bool} {x : Status} {p : Response × State} (hp : Aside s p.2) :
    Aside s (if b then refuse x s else p).2 := by
  cases b
  · exact hp
  · exact Aside.refl s

theorem judgeArm_aside (action : Byte) (s : State) : Aside s (judgeArm action s).2 := by
  unfold judgeArm
  split
  · exact Aside.refl s
  · split
    · exact Aside.refl s
    · split
      case h_8 => exact aside_unless ⟨rfl, rfl, rfl, rfl, .inr fun p => by simp⟩
      case h_6 | h_7 => exact aside_unless (Aside.refl s)
      all_goals exact Aside.refl s

theorem judgeDisarm_aside (s : State) : Aside s (judgeDisarm s).2 := by
  unfold judgeDisarm
  split
  case h_8 => exact aside_unless ⟨rfl, rfl, rfl, rfl, .inr fun p => by simp⟩
  case h_5 | h_6 | h_7 => exact aside_unless (Aside.refl s)
  all_goals exact Aside.refl s

theorem judgeMark_aside (s : State) : Aside s (judgeMark s).2 := by
  unfold judgeMark
  split
  case h_8 => exact aside_unless (.of_eq (by simp))
  case h_5 | h_6 | h_7 => exact aside_unless (Aside.refl s)
  all_goals exact Aside.refl s

theorem judgeRelease_aside (n : Byte) (s : State) : Aside s (judgeRelease n s).2 := by
  unfold judgeRelease
  split
  · exact Aside.refl s
  · split
    case h_7 | h_8 => exact aside_unless (.of_eq (by simp))
    case h_6 => exact aside_unless (Aside.refl s)
    all_goals exact Aside.refl s

theorem judgeDiscard_aside (s : State) : Aside s (judgeDiscard s).2 := by
  unfold judgeDiscard
  split
  case h_6 | h_7 => exact aside_unless (Aside.refl s)
  case h_8 =>
    refine aside_unless ?_
    split
    · exact .of_eq (by simp)
    · exact ⟨rfl, rfl, rfl, rfl, .inr fun p => by simp⟩
  all_goals exact Aside.refl s

theorem judgePeek_aside (slot : BitVec 16) (s : State) : Aside s (judgePeek slot s).2 := by
  have htake : Aside s (takePeek slot s).2 := by
    unfold takePeek
    refine aside_unless ?_
    split
    · exact Aside.refl s
    · exact .of_eq (by simp)
  unfold judgePeek
  split
  case h_6 | h_7 | h_8 => exact htake
  all_goals exact Aside.refl s

theorem judgeCaptureSet_aside (slot mode cause filter : Byte) (s : State) :
    Aside s (judgeCaptureSet slot mode cause filter s).2 := by
  unfold judgeCaptureSet
  split
  · exact .of_eq (by simp)
  · exact Aside.refl s

theorem judgeAckEvents_aside (v : Word) (s : State) : Aside s (judgeAckEvents v s).2 := by
  unfold judgeAckEvents
  split
  · unfold acknowledge
    split <;> exact .of_eq (by simp [clearHits])
  · exact Aside.refl s

/-! ## The mark sources -/

theorem pinTurns_aside (s : State) : Aside s (pinTurns s) := by
  unfold pinTurns
  split
  · exact .of_eq (by simp)
  · split <;> exact .of_eq (by simp)

/-- The commands and happenings that leave the two ports, the engine state and the journal alone. -/
def leavesAside : Instr → Bool
  | .status | .get _ | .tableRead _ _ | .tableWrite _ _ _ | .install | .arm _ | .disarm | .mark | .release _ | .discard
  | .peek _ | .peekRead | .marksRead _ _ | .captureSet _ _ _ _ | .captureRead _ | .ackEvents _ | .frameUnknown _ _
  | .frameDiscarded | .periodicExpiry | .quietExpiry | .markPinChange | .filteredChange | .pfailRelease | .frameBegin
  | .frameEnd => true
  | _ => false

theorem exec_aside {c : Instr} {s t : State} (hc : leavesAside c = true) (h : exec c s = .next t) : Aside s t := by
  cases c with
  | status => exact serve_aside h (Aside.refl s)
  | get item => exact serve_aside h (judgeGet_onlyReads item s).aside
  | tableRead index table => exact serve_aside h (judgeTableRead_onlyReads index table s).aside
  | tableWrite index mask f => exact serve_aside h (unlessHalted_leaves (Aside.refl s) (judgeTableWrite_aside index mask f s))
  | install => exact serve_aside h (unlessHalted_leaves (Aside.refl s) (judgeInstall_aside s))
  | arm action => exact serve_aside h (engineCommand_leaves (Aside.refl s) (judgeArm_aside action s))
  | disarm => exact serve_aside h (engineCommand_leaves (Aside.refl s) (judgeDisarm_aside s))
  | mark => exact serve_aside h (engineCommand_leaves (Aside.refl s) (judgeMark_aside s))
  | release n => exact serve_aside h (engineCommand_leaves (Aside.refl s) (judgeRelease_aside n s))
  | discard => exact serve_aside h (engineCommand_leaves (Aside.refl s) (judgeDiscard_aside s))
  | peek slot => exact serve_aside h (engineCommand_leaves (Aside.refl s) (judgePeek_aside slot s))
  | peekRead => exact serve_aside h (judgePeekRead_onlyReads s).aside
  | marksRead first count => exact serve_aside h (judgeMarksRead_onlyReads first count s).aside
  | captureSet slot mode cause filter =>
    exact serve_aside h (unlessHalted_leaves (Aside.refl s) (judgeCaptureSet_aside slot mode cause filter s))
  | captureRead slot => exact serve_aside h (judgeCaptureRead_onlyReads slot s).aside
  | ackEvents v => exact serve_aside h (judgeAckEvents_aside v s)
  | frameUnknown | frameDiscarded | frameBegin | frameEnd =>
    cases h
    split
    · exact (Aside.refl s).withLink _
    · exact Aside.refl s
  | periodicExpiry | quietExpiry =>
    cases h
    split
    · exact .of_eq (by simp)
    · exact Aside.refl s
  | markPinChange =>
    cases h
    split
    · exact Aside.refl s
    · exact .trans (.of_eq (by simp)) (pinTurns_aside (changeIfDue s))
  | filteredChange =>
    cases h
    exact .of_eq (by simp)
  | pfailRelease =>
    cases h
    split
    · exact .of_eq (by simp)
    · exact Aside.refl s
  | _ => cases hc

end Sys2Proof.Machine
end

section
/-!
SUPPORT. What a grant to the engine leaves: the host port and the journal as they were, and the port free or begun on a step of
the engine's (R115, R118).
-/
namespace Sys2Proof.Machine

/-- The requests of FORMAT and of recovery's anchor reads (R115). -/
def Request.ofFormatOrAnchorRead : Request → Bool
  | .formatAnchors | .formatSlot | .formatFinal | .recoveryRead => true
  | _ => false

/-- A grant to the engine leaves the host port, the engine state and the journal alone; an exclusive operation may end; the
tenancy begun, if any, is none of the host's, and one of FORMAT's or an anchor read's where that was asked for. -/
structure EngineBegins (s t : State) : Prop where
  host : t.host = s.host
  state : t.engine.state = s.engine.state
  journal : t.engine.journal = s.engine.journal
  exclusive : t.engine.exclusive = s.engine.exclusive ∨ t.engine.exclusive = none
  work : ∀ x, t.port.tenancy = some x → x.work.ofHost = false ∧
    (x.work.ofFormatOrAnchorRead = true → ∃ r, s.engine.request = some r ∧ r.ofFormatOrAnchorRead = true)

/-- A tenancy begun on a step of the engine's that is not FORMAT's and no anchor read. -/
theorem EngineBegins.of_issued {s t : State} {x : Tenancy} (ht : t.port.tenancy = some x) (hh : x.work.ofHost = false)
    (hf : x.work.ofFormatOrAnchorRead = false) (he : t.host = s.host ∧ t.engine.state = s.engine.state ∧
      t.engine.journal = s.engine.journal ∧ t.engine.exclusive = s.engine.exclusive) : EngineBegins s t := by
  obtain ⟨hhost, hstate, hjournal, hexclusive⟩ := he
  refine ⟨hhost, hstate, hjournal, .inl hexclusive, fun y hy => ?_⟩
  rw [ht, Option.some.injEq] at hy
  subst hy
  exact ⟨hh, fun hw => absurd hw (by simp [hf])⟩

/-- The port left free. -/
theorem EngineBegins.of_free {s t : State} (he : t.port.tenancy = none ∧ t.host = s.host ∧ t.engine.state = s.engine.state ∧
    t.engine.journal = s.engine.journal) (hx : t.engine.exclusive = s.engine.exclusive ∨ t.engine.exclusive = none) :
    EngineBegins s t := by
  obtain ⟨hport, hhost, hstate, hjournal⟩ := he
  exact ⟨hhost, hstate, hjournal, hx, by simp [hport]⟩

/-- What was asked for by a request granted (R115, R118). -/
theorem request_of_grantsEngine {r : Request} {s : State} (h : s.grantsEngine r = true) : s.engine.request = some r := by
  simp only [State.grantsEngine, State.engineRequest, Bool.and_eq_true, beq_iff_eq] at h
  obtain ⟨⟨-, hr⟩, -⟩ := h
  split at hr
  · cases hr
  · exact hr

/-- A tenancy begun for a request of FORMAT's or an anchor read's. -/
theorem EngineBegins.of_asked {r : Request} {s t : State} {x : Tenancy} (hg : s.grantsEngine r = true)
    (hr : r.ofFormatOrAnchorRead = true) (ht : t.port.tenancy = some x) (hh : x.work.ofHost = false) (hhost : t.host = s.host)
    (he : t.engine = s.engine) : EngineBegins s t := by
  refine ⟨hhost, by rw [he], by rw [he], .inl (by rw [he]), fun y hy => ?_⟩
  rw [ht, Option.some.injEq] at hy
  subst hy
  exact ⟨hh, fun _ => ⟨r, request_of_grantsEngine hg, hr⟩⟩

/-- What an engine tenancy's happening leaves: nothing changed, or a grant that finds the port free. -/
def BegunOrNot (s t : State) : Prop := t = s ∨ s.port.tenancy = none ∧ EngineBegins s t

/-- An engine tenancy's beginning changes nothing when it is not granted, and else finds the port free. -/
theorem onGrant_begun {r : Request} {work : State → State} {s t : State} (h : onGrant r work s = .next t)
    (hw : s.grantsEngine r = true → EngineBegins s (work s.engineGranted)) : BegunOrNot s t := by
  by_cases hg : s.grantsEngine r = true
  · rw [onGrant_granted hg, Host.Outcome.next.injEq] at h
    subst h
    exact .inr ⟨tenancy_none_of_grantsEngine hg, hw hg⟩
  · rw [onGrant, if_neg hg, Host.Outcome.next.injEq] at h
    exact .inl h.symm

theorem engineGranted_begins (s : State) : EngineBegins s s.engineGranted := .of_free ⟨rfl, rfl, rfl, rfl⟩ (.inl rfl)

/-- An exclusive operation that ends at its grant (R21, R88, R90). -/
theorem endExclusive_begins {s u : State} (hu : u.port.tenancy = none ∧ u.host = s.host ∧ u.engine = s.engine) :
    EngineBegins s (endExclusive u) := by
  obtain ⟨hport, hhost, hengine⟩ := hu
  exact .of_free (by simp [hport, hhost, hengine]) (.inr (by simp))

theorem execMarkTake_begun {s t : State} (h : execMarkTake s = .next t) : BegunOrNot s t := by
  unfold execMarkTake at h
  refine onGrant_begun h fun _ => ?_
  split
  · unfold markBegin
    split
    · exact .of_issued rfl rfl rfl (by simp [State.engineGranted])
    · exact .of_issued rfl rfl rfl (by simp [markAppendStep, State.engineGranted])
  · exact .of_free (by simp [State.engineGranted]) (.inl (by simp [State.engineGranted]))

theorem execArming_begun {s t : State} (h : execArming s = .next t) : BegunOrNot s t := by
  unfold execArming at h
  refine onGrant_begun h fun _ => ?_
  split
  · exact endExclusive_begins (by simp [State.engineGranted])
  · unfold armBegin
    split <;> exact .of_issued rfl rfl rfl ⟨rfl, rfl, rfl, rfl⟩

theorem execDisarming_begun {s t : State} (h : execDisarming s = .next t) : BegunOrNot s t := by
  unfold execDisarming at h
  refine onGrant_begun h fun _ => ?_
  split
  · exact endExclusive_begins ⟨rfl, rfl, rfl⟩
  · split <;> exact .of_issued rfl rfl rfl ⟨rfl, rfl, rfl, rfl⟩

theorem execReleaseJob_begun {s t : State} (h : execReleaseJob s = .next t) : BegunOrNot s t := by
  unfold execReleaseJob at h
  refine onGrant_begun h fun _ => ?_
  split
  · exact .of_free ⟨rfl, rfl, rfl, rfl⟩ (.inl rfl)
  · split
    · exact .of_free ⟨rfl, rfl, rfl, rfl⟩ (.inl rfl)
    · exact .of_issued rfl rfl rfl ⟨rfl, rfl, rfl, rfl⟩

theorem execDiscardTenancy_begun {s t : State} (h : execDiscardTenancy s = .next t) : BegunOrNot s t := by
  unfold execDiscardTenancy at h
  refine onGrant_begun h fun _ => ?_
  split
  · exact endExclusive_begins ⟨rfl, rfl, rfl⟩
  · split
    · exact endExclusive_begins ⟨rfl, rfl, rfl⟩
    · exact .of_issued rfl rfl rfl ⟨rfl, rfl, rfl, rfl⟩

theorem execPeekJob_begun {s t : State} (h : execPeekJob s = .next t) : BegunOrNot s t := by
  unfold execPeekJob at h
  exact onGrant_begun h fun _ => .of_issued rfl rfl rfl ⟨rfl, rfl, rfl, rfl⟩

theorem execRollbackAnchor_begun {s t : State} (h : execRollbackAnchor s = .next t) : BegunOrNot s t := by
  unfold execRollbackAnchor at h
  refine onGrant_begun h fun _ => ?_
  split
  · exact .of_issued rfl rfl rfl ⟨rfl, rfl, rfl, rfl⟩
  · exact engineGranted_begins s

theorem execRestoreStep_begun {s t : State} (h : execRestoreStep s = .next t) : BegunOrNot s t := by
  unfold execRestoreStep at h
  refine onGrant_begun h fun _ => ?_
  split
  · exact .of_issued rfl rfl rfl ⟨rfl, rfl, rfl, rfl⟩
  · exact engineGranted_begins s

theorem execSettle_begun {s t : State} (h : execSettle s = .next t) : BegunOrNot s t := by
  unfold execSettle at h
  refine onGrant_begun h fun _ => ?_
  split
  · split <;> exact .of_issued rfl rfl rfl ⟨rfl, rfl, rfl, rfl⟩
  · exact engineGranted_begins s

theorem execFormatAnchorClear_begun {s t : State} (h : execFormatAnchorClear s = .next t) : BegunOrNot s t := by
  unfold execFormatAnchorClear at h
  exact onGrant_begun h fun hg => .of_asked hg rfl rfl rfl rfl rfl

theorem execFormatSlotClear_begun {s t : State} (h : execFormatSlotClear s = .next t) : BegunOrNot s t := by
  unfold execFormatSlotClear at h
  exact onGrant_begun h fun hg => .of_asked hg rfl rfl rfl rfl rfl

theorem execFormatFinalAnchor_begun {s t : State} (h : execFormatFinalAnchor s = .next t) : BegunOrNot s t := by
  unfold execFormatFinalAnchor at h
  exact onGrant_begun h fun hg => .of_asked hg rfl rfl rfl rfl rfl

theorem execRecoveryAnchorRead_begun {s t : State} (h : execRecoveryAnchorRead s = .next t) : BegunOrNot s t := by
  unfold execRecoveryAnchorRead at h
  refine onGrant_begun h fun hg => ?_
  split
  · exact .of_asked hg rfl rfl rfl rfl rfl
  · exact .of_asked hg rfl rfl rfl rfl rfl
  · exact engineGranted_begins s

theorem execScanStep_begun {s t : State} (h : execScanStep s = .next t) : BegunOrNot s t := by
  unfold execScanStep at h
  refine onGrant_begun h fun _ => ?_
  split
  · exact .of_issued rfl rfl rfl ⟨rfl, rfl, rfl, rfl⟩
  · exact engineGranted_begins s

/-- The happenings by which the engine is granted a tenancy (R115). -/
def grantsTenancy : Instr → Bool
  | .markTake | .arming | .disarming | .releaseJob | .discardTenancy | .peekJob | .rollbackAnchor | .restoreStep | .settle
  | .formatAnchorClear | .formatSlotClear | .formatFinalAnchor | .recoveryAnchorRead | .scanStep => true
  | _ => false

/-- A grant to the engine begins a tenancy of the engine's, or nothing. -/
theorem exec_begun {c : Instr} {s t : State} (hc : grantsTenancy c = true) (h : exec c s = .next t) : BegunOrNot s t := by
  cases c with
  | markTake => exact execMarkTake_begun h
  | arming => exact execArming_begun h
  | disarming => exact execDisarming_begun h
  | releaseJob => exact execReleaseJob_begun h
  | discardTenancy => exact execDiscardTenancy_begun h
  | peekJob => exact execPeekJob_begun h
  | rollbackAnchor => exact execRollbackAnchor_begun h
  | restoreStep => exact execRestoreStep_begun h
  | settle => exact execSettle_begun h
  | formatAnchorClear => exact execFormatAnchorClear_begun h
  | formatSlotClear => exact execFormatSlotClear_begun h
  | formatFinalAnchor => exact execFormatFinalAnchor_begun h
  | recoveryAnchorRead => exact execRecoveryAnchorRead_begun h
  | scanStep => exact execScanStep_begun h
  | _ => cases hc

/-- FORMAT and the anchor reads ask for the port outside ARMED alone. -/
theorem TouchedSetOk.not_armed_of_request {s : State} (h : TouchedSetOk s) {r : Request} (hr : s.engine.request = some r)
    (hf : r.ofFormatOrAnchorRead = true) : s.engine.state ≠ .armed := by
  intro harmed
  obtain ⟨-, -, -, hformat, -⟩ := h
  simp only [Engine.request, harmed] at hr
  split at hr
  · rename_i x hx
    cases x with
    | format p => exact hformat p hx harmed
    | arm | disarm | discard =>
      cases hr
      cases hf
    | rollback => cases hr
  · obtain ⟨j, -, rfl⟩ := Option.map_eq_some_iff.1 hr
    cases j <;> cases hf

/-- A grant to the engine keeps the condition on the touched set. -/
theorem TouchedSetOk.begins {s t : State} (h : TouchedSetOk s) (k : EngineBegins s t) : TouchedSetOk t := by
  obtain ⟨-, hstate, hjournal, hexclusive, hwork⟩ := k
  refine h.of_kept ⟨hstate, .inr ⟨by rw [hjournal], fun hl => by rw [hjournal, hl]⟩,
    hexclusive.imp id fun hx p hp => absurd hp (by simp [hx]), .inr fun x hx hw => ?_⟩
  obtain ⟨-, hasked⟩ := hwork x hx
  obtain ⟨r, hr, hf⟩ := hasked hw
  exact h.not_armed_of_request hr hf

theorem TouchedSetOk.begun {s t : State} (h : TouchedSetOk s) (k : BegunOrNot s t) : TouchedSetOk t := by
  obtain rfl | ⟨-, hbegins⟩ := k
  · exact h
  · exact h.begins hbegins

end Sys2Proof.Machine
end

section
/-!
PROOFS. Every step keeps the touched set within its bounds and states (R60).
-/
namespace Sys2Proof.Machine

/-- An access answered OK issues the next one of its run or completes its step (R112, R119). -/
theorem TouchedSetOk.memoryAnswer {s t : State} (h : TouchedSetOk s) (ok : Bool) (d : Word)
    (ht : exec (.memoryAnswer ok d) s = .next t) : TouchedSetOk t := by
  rw [exec_memoryAnswer, execMemoryAnswer, Host.Outcome.next.injEq] at ht
  subst ht
  cases hp : s.port.tenancy with
  | none => exact h
  | some x =>
    obtain ⟨w, x⟩ := x
    have hnext : ∀ y, TouchedSetOk (s.withTenancy (some ⟨w, y⟩)) := fun y =>
      h.of_kept ⟨rfl, .inr ⟨rfl, id⟩, .inl rfl, .inr fun z hz hw => by
        cases hz
        exact h.not_armed_of_work hp hw⟩
    cases ok with
    | false => exact h.failWork hp
    | true =>
      simp only [if_true, accessAnswered]
      split
      · exact hnext _
      · exact h.completeWork hp _
      · exact hnext _
      · exact h.completeWork hp _

/-! ## The host port -/

/-- A granted write's treatment (R55 to R61). -/
theorem treatWrite_touchedKept (m : Mode) (c : HostAccess) (s : State) : TouchedKept s (treatWrite m c s) := by
  have hpolicy : TouchedKept s (applyPolicy s) := by
    unfold applyPolicy
    split
    · exact holdWord_touchedKept s
    · exact finishWord_touchedKept _ s
    · exact releaseOrLose_touchedKept s
    · exact .of_issued rfl rfl rfl
  have hjournaled : TouchedKept s (journaledWrite c s) := by
    unfold journaledWrite
    split
    · exact forwardWrite_touchedKept c s
    · split
      · exact .of_issued rfl rfl rfl
      · exact hpolicy
  unfold treatWrite
  split
  · exact forwardWrite_touchedKept c s
  · unfold treatJournalWrite
    split
    · split
      · exact forwardWrite_touchedKept c s
      · exact hjournaled
    · split <;> exact .of_issued rfl rfl rfl
    · exact forwardWrite_touchedKept c s
    · exact forwardWrite_touchedKept c s
    · exact holdWord_touchedKept s
    · exact holdWord_touchedKept s
    · exact finishWord_touchedKept _ s
    · exact finishWord_touchedKept _ s
  · exact finishWord_touchedKept _ s

/-- The granted word's treatment (Table 3-1). -/
theorem grantWord_touchedKept (s : State) : TouchedKept s (grantWord s) := by
  unfold grantWord
  split
  · rename_i c _
    refine .trans (t := s.withCurrent (some (c.granted (s.regions.resolve c.wordAddress)))) (.of_eq ⟨rfl, rfl, rfl, rfl⟩) ?_
    unfold treatWord
    split
    · unfold treatRead
      split
      · exact holdWord_touchedKept _
      · exact .of_issued rfl rfl rfl
    · exact treatWrite_touchedKept _ _ _
  · exact TouchedKept.refl s

theorem dropWord_touchedKept (x : FaultCause) (s : State) : TouchedKept s (dropWord x s) := by
  unfold dropWord
  (repeat' split) <;> exact .of_eq (by simp)

theorem takePfail_touchedKept (s : State) : TouchedKept s (takePfail s) := by
  have hhalt : ∀ u, TouchedKept u (haltPart u) := fun u => by
    unfold haltPart
    split
    · exact TouchedKept.refl u
    · exact .trans (t := u.withControl { u.control with halted := true }) (.of_eq ⟨rfl, rfl, rfl, rfl⟩)
        (dropWord_touchedKept .powerFail _)
  exact .trans (.of_eq (by simp)) (hhalt (offer _ (setFlag _ (s.withControl _))))

/-! ## Time -/

theorem takeDue_touchedKept (s : State) : TouchedKept s (takeDue s) := .of_eq (by simp)

theorem idle_touchedKept (s : State) : TouchedKept s (idle s) := by
  unfold idle
  split
  · exact TouchedKept.refl s
  · exact .trans (takeDue_touchedKept s) (.of_eq (by simp [tickLink]))

/-! ## Every step -/

/-- A rollback taken empties the touched set as the engine leaves ARMED (R95, R96). -/
theorem TouchedSetOk.judgeRollback {s : State} (h : TouchedSetOk s) (depth : Byte) : TouchedSetOk (judgeRollback depth s).2 := by
  have htake : ∀ origin, TouchedSetOk (takeRollback origin depth s).2 := fun origin => by
    unfold takeRollback
    split
    · exact h
    · split
      · exact touchedSetOk_of_not_armed rfl (by simp [beginRolling])
      · exact h
  unfold Machine.judgeRollback
  split
  case h_6 => split <;> exact h
  case h_7 | h_8 =>
    split
    · exact h
    · split
      · exact h
      · exact htake _
  all_goals exact h

/-- FORMAT is taken with the in-chip journal empty (R129). -/
theorem TouchedSetOk.judgeFormat {s : State} (h : TouchedSetOk s) (sizeCode : Byte) :
    TouchedSetOk (judgeFormat sizeCode s).2 := by
  have hbegin : ∀ k, TouchedSetOk (beginFormat k s) := fun k => touchedSetOk_of_not_armed rfl (by simp [beginFormat])
  unfold Machine.judgeFormat
  split
  · exact h
  · split
    · unfold takeFormat
      split
      case h_6 | h_7 | h_8 =>
        split
        · exact h
        · exact hbegin _
      case h_5 => split <;> exact h
      all_goals exact h
    · exact h

/-- The hold limit set answers a word at most; every other item leaves the engine alone (R66, R176). -/
theorem judgeSet_touchedKept (item : Byte) (v : Word) (s : State) : TouchedKept s (judgeSet item v s).2 := by
  by_cases h5 : item.toNat = 5
  · simp only [judgeSet, itemSet, h5]
    split
    · rename_i t ht
      obtain ⟨n, -, rfl⟩ := Option.map_eq_some_iff.1 ht
      exact .of_eq (by simp [setHoldLimit])
    · exact TouchedKept.refl s
  · exact (judgeSet_aside h5 v s).touchedKept

theorem judgeRestart_touchedKept (s : State) : TouchedKept s (judgeRestart s).2 := by
  unfold judgeRestart
  split
  · exact TouchedKept.refl s
  · split
    · exact TouchedKept.refl s
    · exact .trans (t := s.withControl { s.control with halted := false, restartPending := true })
        (.of_eq ⟨rfl, rfl, rfl, rfl⟩) (dropWord_touchedKept .restart _)

theorem presentRequest_touchedKept (r : HostRequest) (s : State) : TouchedKept s (presentRequest r s) := by
  unfold presentRequest takeIfIdle
  split <;> exact .of_eq (by simp)

/-- The halt empties the touched set as the engine leaves ARMED (R141). -/
theorem TouchedSetOk.enterHalted {s t : State} (h : TouchedSetOk s) (ht : execEnterHalted s = .next t) : TouchedSetOk t := by
  cases ht
  split
  · exact touchedSetOk_of_not_armed rfl (by simp [Engine.toHalted])
  · exact h

/-- A warm restart leaves the engine RECOVERING with a cold journal (R134). -/
theorem TouchedSetOk.warmRestart {s t : State} (h : TouchedSetOk s) (ht : execWarmRestart s = .next t) : TouchedSetOk t := by
  have hhold : ∀ u, (holdWaiting u).engine = u.engine := fun u => by
    unfold holdWaiting
    (repeat' split) <;> rfl
  cases ht
  split
  · exact touchedSetOk_of_not_armed (by rw [hhold]; rfl) (by rw [hhold]; simp [Engine.restarted, coldEngine])
  · exact h

/-- What the remaining happenings leave: the engine and the journal as they were. -/
theorem TouchedKept.of_branch {s t u : State} {b : Prop} [Decidable b] (hk : TouchedKept s u)
    (ht : Host.Outcome.next (if b then u else s) = (.next t : Host.Outcome State Fault Refusal)) : TouchedKept s t := by
  cases ht
  split
  · exact hk
  · exact TouchedKept.refl s

/-- Every command and happening keeps the condition on the touched set. -/
theorem TouchedSetOk.exec {c : Instr} {s t : State} (h : TouchedSetOk s) (ht : exec c s = .next t) : TouchedSetOk t := by
  have hlink : ∀ (u : State) (l : Link), TouchedSetOk u → TouchedSetOk (u.withLink l) := fun _ _ hu => hu
  cases c with
  | status | get | tableRead | tableWrite | install | arm | disarm | mark | release | discard | peek | peekRead | marksRead
  | captureSet | captureRead | ackEvents | frameUnknown | frameDiscarded | periodicExpiry | quietExpiry | markPinChange
  | filteredChange | pfailRelease | frameBegin | frameEnd => exact h.of_kept (exec_aside rfl ht).touchedKept
  | markTake | arming | disarming | releaseJob | discardTenancy | peekJob | rollbackAnchor | restoreStep | settle
  | formatAnchorClear | formatSlotClear | formatFinalAnchor | recoveryAnchorRead | scanStep => exact h.begun (exec_begun rfl ht)
  | set item v =>
    exact serve_leaves ht h (unlessHalted_leaves (P := TouchedSetOk) h (h.of_kept (judgeSet_touchedKept item v s))) hlink
  | rollback depth => exact serve_leaves ht h (engineCommand_leaves (P := TouchedSetOk) h (h.judgeRollback depth)) hlink
  | format sizeCode => exact serve_leaves ht h (engineCommand_leaves (P := TouchedSetOk) h (h.judgeFormat sizeCode)) hlink
  | restart => exact serve_leaves ht h (h.of_kept (judgeRestart_touchedKept s)) hlink
  | hostAccess kind address words => exact h.of_kept (.of_branch (presentRequest_touchedKept _ s) ht)
  | hostTenancy =>
    exact h.of_kept (.of_branch (.trans (t := grantTo .host s) (.of_eq ⟨rfl, rfl, rfl, rfl⟩) (grantWord_touchedKept _)) ht)
  | memoryAnswer ok d => exact h.memoryAnswer ok d ht
  | holdExpiry =>
    cases ht
    exact h.of_kept (.of_eq (by simp))
  | pfailAssert => exact h.of_kept (.of_branch (takePfail_touchedKept s) ht)
  | coldReset =>
    cases ht
    exact touchedSetOk_of_not_armed rfl (by simp [State.cold, coldEngine])
  | warmRestart => exact h.warmRestart ht
  | enterHalted => exact h.enterHalted ht
  | timestampTick =>
    cases ht
    split
    · exact h
    · exact h.of_kept (.of_eq (by simp))
  | resetEnd straps pfail high selected =>
    cases ht
    split
    · split
      · exact h.of_kept (.trans (t := sampleLevels straps high selected s) (.of_eq ⟨rfl, rfl, rfl, rfl⟩) (takePfail_touchedKept _))
      · exact h
    · exact h

/-- Settles O55: the command at the front, or a microsecond, keeps the condition. -/
theorem everyStepKeepsTheTouchedSet : Obligations.EveryStepKeepsTheTouchedSet := by
  intro s t h ht
  unfold step at ht
  split at ht
  · cases ht
    exact h.of_kept (idle_touchedKept s)
  · rename_i c rest _
    exact TouchedSetOk.exec (s := s.withPending rest) h ht

end Sys2Proof.Machine
end

section
/-!
PROOFS. Every step keeps the host word and its tenancy together (R48, R111, R185).
-/
namespace Sys2Proof.Machine

/-! ## The two ways the condition holds -/

/-- No word is GRANTED and no host tenancy is in progress: the port stands settled. -/
structure Ungranted (s : State) : Prop where
  settled : Settled s.host
  work : ∀ x, s.port.tenancy = some x → x.work.ofHost = false

/-- This word is current and GRANTED. -/
structure GrantedWord (c : HostAccess) (s : State) : Prop where
  current : s.host.current = some c
  phase : c.phase = .granted
  position : c.position < c.words.length

theorem Ungranted.hostWordOk {s : State} (h : Ungranted s) : HostWordOk s := by
  obtain ⟨⟨hcurrent, hpresented⟩, hwork⟩ := h
  refine ⟨⟨fun ⟨x, hx, hh⟩ => absurd hh (by simp [hwork x hx]), fun hg => ?_⟩, fun c hc => ?_, hpresented⟩
  · obtain ⟨c, hc, hp⟩ := Option.map_eq_some_iff.1 hg
    obtain ⟨hphase, -⟩ := hcurrent c hc
    simp [hp] at hphase
  · obtain ⟨hphase, hposition⟩ := hcurrent c hc
    exact ⟨by rcases hphase with hp | hp <;> simp [hp], hposition⟩

/-- A word is GRANTED while a step of the host's is in progress. -/
theorem GrantedWord.hostWordOk {c : HostAccess} {s : State} (h : GrantedWord c s) {x : Tenancy}
    (hx : s.port.tenancy = some x) (hh : x.work.ofHost = true) : HostWordOk s := by
  obtain ⟨hcurrent, hphase, hposition⟩ := h
  refine ⟨⟨fun _ => by simp [hcurrent, hphase], fun _ => ⟨x, hx, hh⟩⟩, fun d hd => ?_, by simp [hcurrent]⟩
  rw [hcurrent, Option.some.injEq] at hd
  subst hd
  exact ⟨by simp [hphase], hposition⟩

/-- Either the port stands settled, or its word is GRANTED with its tenancy in progress. -/
theorem HostWordOk.cases {s : State} (h : HostWordOk s) :
    Ungranted s ∨ ∃ c x, GrantedWord c s ∧ s.port.tenancy = some x ∧ x.work.ofHost = true := by
  obtain ⟨hgranted, hcurrent, hpresented⟩ := h
  by_cases hh : ∃ x, s.port.tenancy = some x ∧ x.work.ofHost = true
  · obtain ⟨c, hc, hp⟩ := Option.map_eq_some_iff.1 (hgranted.1 hh)
    obtain ⟨-, hposition⟩ := hcurrent c hc
    obtain ⟨x, hx, hw⟩ := hh
    exact .inr ⟨c, x, ⟨hc, hp, hposition⟩, hx, hw⟩
  · refine .inl ⟨⟨fun c hc => ?_, hpresented⟩, fun x hx => Bool.eq_false_iff.2 fun hw => hh ⟨x, hx, hw⟩⟩
    obtain ⟨hentry, hposition⟩ := hcurrent c hc
    have hnot : c.phase ≠ .granted := fun hp => hh (hgranted.2 (by simp [hc, hp]))
    refine ⟨?_, hposition⟩
    cases hp : c.phase with
    | entry => exact absurd hp hentry
    | granted => exact absurd hp hnot
    | waiting => exact .inl rfl
    | held => exact .inr rfl

/-- While a step of the engine's holds the port, or none does, no word is GRANTED. -/
theorem HostWordOk.ungranted {s : State} (h : HostWordOk s)
    (hw : ∀ x, s.port.tenancy = some x → x.work.ofHost = false) : Ungranted s := by
  obtain hu | ⟨c, x, -, hx, hh⟩ := h.cases
  · exact hu
  · exact absurd hh (by simp [hw x hx])

/-- While a step of the host's holds the port, its word is GRANTED. -/
theorem HostWordOk.grantedWord {s : State} (h : HostWordOk s) {x : Tenancy} (hx : s.port.tenancy = some x)
    (hh : x.work.ofHost = true) : ∃ c, GrantedWord c s := by
  obtain hu | ⟨c, -, hg, -⟩ := h.cases
  · exact absurd hh (by simp [hu.work x hx])
  · exact ⟨c, hg⟩

/-! ## Changes that leave the memory port alone -/

/-- The change leaves the tenancy alone, a GRANTED word as it was, and a settled port settled. -/
structure WordKept (s t : State) : Prop where
  tenancy : t.port.tenancy = s.port.tenancy
  granted : ∀ c, s.host.current = some c → c.phase = .granted → t.host.current = some c
  settled : Settled s.host → Settled t.host

theorem WordKept.refl (s : State) : WordKept s s := ⟨rfl, fun _ hc _ => hc, id⟩

theorem WordKept.of_eq {s t : State} (h : t.host = s.host ∧ t.port.tenancy = s.port.tenancy) : WordKept s t := by
  obtain ⟨hhost, hport⟩ := h
  exact ⟨hport, fun c hc _ => by rw [hhost, hc], fun hs => by rw [hhost]; exact hs⟩

theorem WordKept.trans {s t u : State} (h : WordKept s t) (k : WordKept t u) : WordKept s u :=
  ⟨k.tenancy.trans h.tenancy, fun c hc hp => k.granted c (h.granted c hc hp) hp, fun hs => k.settled (h.settled hs)⟩

theorem Aside.wordKept {s t : State} (h : Aside s t) : WordKept s t := .of_eq ⟨h.host, by rw [h.port]⟩

theorem HostWordOk.of_kept {s t : State} (h : HostWordOk s) (k : WordKept s t) : HostWordOk t := by
  obtain ⟨hsettled, hwork⟩ | ⟨c, x, ⟨hcurrent, hphase, hposition⟩, hx, hh⟩ := h.cases
  · exact Ungranted.hostWordOk ⟨k.settled hsettled, fun x hx => hwork x (k.tenancy ▸ hx)⟩
  · exact GrantedWord.hostWordOk ⟨k.granted c hcurrent hphase, hphase, hposition⟩ (k.tenancy.trans hx) hh

/-- A word that is answered while it asks or is held leaves the port settled. -/
theorem answerWord_wordKept {a : WordResult} {c : HostAccess} {s : State} (hc : s.host.current = some c)
    (hp : c.phase ≠ .granted) : WordKept s (answerWord a s) :=
  ⟨by simp, fun d hd hg => by
    rw [hc, Option.some.injEq] at hd
    exact absurd hg (hd ▸ hp), fun _ => answerWord_settled a c s hc⟩

/-- A word in HELD or WAITING changed within these phases. -/
theorem withCurrent_wordKept {c d : HostAccess} {s : State} (hc : s.host.current = some c) (hp : c.phase ≠ .granted)
    (hd : d.phase = .waiting ∨ d.phase = .held) (hw : d.words = c.words ∧ d.position = c.position) :
    WordKept s (s.withCurrent (some d)) := by
  obtain ⟨hwords, hposition⟩ := hw
  refine ⟨rfl, fun e he hg => ?_, fun hs => ⟨fun e he => ?_, by simp⟩⟩
  · rw [hc, Option.some.injEq] at he
    exact absurd hg (he ▸ hp)
  · simp only [State.withCurrent_host, Option.some.injEq] at he
    subst he
    obtain ⟨-, hlt⟩ := hs.1 c hc
    exact ⟨hd, by rw [hwords, hposition]; exact hlt⟩

theorem expireIfReached_wordKept (s : State) : WordKept s (expireIfReached s) := by
  unfold expireIfReached
  split
  · rename_i c hc
    split
    · rename_i hd
      exact answerWord_wordKept hc (by rcases hd.1 with hp | hp <;> simp [hp])
    · exact WordKept.refl s
  · exact WordKept.refl s

theorem dropWord_wordKept (x : FaultCause) (s : State) : WordKept s (dropWord x s) := by
  unfold dropWord
  split
  · rename_i c hc
    split
    · exact WordKept.refl s
    · rename_i hp
      exact answerWord_wordKept hc hp
  · exact WordKept.refl s

theorem wake_wordKept (s : State) : WordKept s (wake s) := by
  unfold wake
  split
  · rename_i c hc
    split
    · rename_i hp
      exact withCurrent_wordKept hc (by simp [hp]) (.inl rfl) ⟨rfl, rfl⟩
    · exact WordKept.refl s
  · exact WordKept.refl s

theorem holdWaiting_wordKept (s : State) : WordKept s (holdWaiting s) := by
  unfold holdWaiting
  split
  · rename_i c hc
    split
    · rename_i hp
      exact withCurrent_wordKept hc (by simp [hp]) (.inr rfl) ⟨rfl, rfl⟩
    · exact WordKept.refl s
  · exact WordKept.refl s

theorem tickHold_wordKept (n : Nat) (s : State) : WordKept s (tickHold n s) := by
  unfold tickHold
  split
  · rename_i c hc
    split
    · rename_i hp
      exact withCurrent_wordKept hc (by rcases hp with hp | hp <;> simp [hp]) hp.symm ⟨rfl, rfl⟩
    · exact WordKept.refl s
  · exact WordKept.refl s

theorem wakeAfterRecovery_wordKept (s : State) : WordKept s (wakeAfterRecovery s) := by
  unfold wakeAfterRecovery
  split
  · rename_i c hc
    split
    · rename_i hp
      split
      · exact withCurrent_wordKept hc (by simp [hp]) (.inl rfl) ⟨rfl, rfl⟩
      · exact answerWord_wordKept hc (by simp [hp])
    · exact WordKept.refl s
  · exact WordKept.refl s

/-- A request presented is taken by an IDLE port, and waits behind a word in progress (R185). -/
theorem presentRequest_wordKept (r : HostRequest) (s : State) : WordKept s (presentRequest r s) := by
  unfold presentRequest takeIfIdle
  cases hc : s.host.current with
  | none =>
    refine ⟨by simp [hc], by simp [hc], fun _ => ?_⟩
    simp only [State.withHost_host, hc, Option.isNone_none, if_true]
    refine takeWords_settled _ _ ?_
    simp [HostPort.left, HostPort.wordsLeft]
  | some c =>
    refine ⟨by simp [hc], by simp [hc], fun hs => ⟨fun d hd => hs.1 d ?_, by simp [hc]⟩⟩
    simpa [hc] using hd

/-! ## Steps of the engine's -/

theorem Ungranted.of_kept {s t : State} (h : Ungranted s) (k : WordKept s t) : Ungranted t :=
  ⟨k.settled h.settled, fun x hx => h.work x (k.tenancy ▸ hx)⟩

theorem Ungranted.of_eq {s t : State} (h : Ungranted s) (he : t.host = s.host ∧ t.port.tenancy = s.port.tenancy) :
    Ungranted t := h.of_kept (.of_eq he)

/-- An access issued for a step of the engine's. -/
theorem Ungranted.issued {s t : State} {x : Tenancy} (h : Ungranted s) (hh : t.host = s.host)
    (ht : t.port.tenancy = some x) (hx : x.work.ofHost = false) : Ungranted t := by
  refine ⟨by rw [hh]; exact h.settled, fun y hy => ?_⟩
  rw [ht, Option.some.injEq] at hy
  exact hy ▸ hx

/-- The port given back. -/
theorem Ungranted.freed {s t : State} (h : Ungranted s) (he : t.host = s.host ∧ t.port.tenancy = none) : Ungranted t := by
  obtain ⟨hh, hp⟩ := he
  exact ⟨by rw [hh]; exact h.settled, by simp [hp]⟩

theorem Ungranted.ended {s : State} (h : Ungranted s) : Ungranted (endTenancy s) := h.freed ⟨rfl, rfl⟩

theorem Ungranted.woken {s : State} (h : Ungranted s) : Ungranted (wake s) := h.of_kept (wake_wordKept s)

theorem Ungranted.flagged {s : State} (h : Ungranted s) (f : Flag) : Ungranted (setFlag f s) := h.of_eq (by simp)

theorem Ungranted.offered {s : State} (h : Ungranted s) (o : Offer) : Ungranted (offer o s) := h.of_eq (by simp)

theorem Ungranted.released {s : State} (h : Ungranted s) (n : Nat) : Ungranted (releaseEpochs n s) := by
  refine Ungranted.woken (Ungranted.flagged ?_ .epochReleased)
  exact h.of_eq ⟨rfl, rfl⟩

theorem Ungranted.dropped {s : State} (h : Ungranted s) : Ungranted (releaseJournal s) := by
  refine Ungranted.woken ?_
  exact h.of_eq ⟨rfl, rfl⟩

theorem Ungranted.anchorFailed {s : State} (h : Ungranted s) : Ungranted (anchorFailure s) := by
  refine Ungranted.woken ?_
  exact h.of_eq ⟨rfl, rfl⟩

theorem Ungranted.recoveryEnded {s : State} (h : Ungranted s) : Ungranted (endRecovery s) := by
  refine Ungranted.of_kept ?_ (wakeAfterRecovery_wordKept _)
  exact h.of_eq ⟨rfl, rfl⟩

theorem Ungranted.exclusiveEnded {s : State} (h : Ungranted s) : Ungranted (endExclusive s) := h.of_eq (by simp)

theorem Ungranted.limited {s : State} (h : Ungranted s) (x : SourceSet) (k : Nat) : Ungranted (markLimitStep x k s) := by
  unfold markLimitStep
  split
  · exact h.issued rfl rfl rfl
  · exact h.freed (by simp [markFinish, emptyTouched])

theorem Ungranted.appended {s : State} (h : Ungranted s) (x : SourceSet) (k : Nat) :
    Ungranted (markAfterAppend x k s) := by
  unfold markAfterAppend
  split
  · exact h.issued rfl rfl rfl
  · exact h.limited x k

theorem Ungranted.rollbackFailed {s : State} (h : Ungranted s) : Ungranted (rollbackFails s) := by
  unfold rollbackFails
  split
  · exact h.issued rfl rfl rfl
  · exact h.ended

theorem Ungranted.restored {s : State} (h : Ungranted s) (link : Word) : Ungranted (restoreComplete link s) := by
  unfold restoreComplete
  split
  · exact h.freed ⟨rfl, rfl⟩
  · exact h.ended

theorem Ungranted.restoreRead {s : State} (h : Ungranted s) (ws : List Word) : Ungranted (restoreReadDone ws s) := by
  have hdamaged : Ungranted (rollbackFails (setFlag .journalDamaged s)) := (h.flagged _).rollbackFailed
  unfold restoreReadDone
  split
  · split
    · unfold restoreAction
      split
      · exact h.issued rfl rfl rfl
      · exact h.restored _
    · exact hdamaged
  · exact hdamaged
  · exact h.ended

theorem Ungranted.toldUnlessRecovery {s : State} (h : Ungranted s) (origin : RollbackOrigin) :
    Ungranted (wakeUnlessRecovery origin s) := by
  cases origin with
  | armed | disarmed => exact h.woken
  | recovery => exact h

theorem Ungranted.rollbackEnded {s : State} (h : Ungranted s) (origin : RollbackOrigin) : Ungranted (endRollback origin s) := by
  cases origin with
  | armed | disarmed => exact h.exclusiveEnded
  | recovery => exact h.recoveryEnded

theorem Ungranted.broken {s : State} (h : Ungranted s) : Ungranted (rollbackBroken s) := by
  unfold rollbackBroken
  split
  · refine Ungranted.rollbackEnded (Ungranted.offered (Ungranted.toldUnlessRecovery ?_ _) _) _
    exact h.freed ⟨rfl, rfl⟩
  · exact h.ended

theorem Ungranted.settledBack {s : State} (h : Ungranted s) : Ungranted (settleAnchorDone s) := by
  unfold settleAnchorDone
  split
  · refine Ungranted.rollbackEnded (Ungranted.offered (Ungranted.flagged (Ungranted.toldUnlessRecovery ?_ _) _) _) _
    exact h.freed (by simp)
  · exact h.ended

/-- Recovery that ends (R140). -/
theorem Ungranted.recovered {s u : State} (h : Ungranted s) (hu : u.host = s.host ∧ u.port.tenancy = s.port.tenancy) :
    Ungranted (endRecovery u) := (h.of_eq hu).recoveryEnded

theorem Ungranted.recoveredBroken {s : State} (h : Ungranted s) : Ungranted (recoveryBroken s) := h.recovered ⟨rfl, rfl⟩

theorem Ungranted.copiesRead {s : State} (h : Ungranted s) (a b : CopyReading) : Ungranted (copyBRead a b s) := by
  have hdecision : ∀ f u, Ungranted u → Ungranted (recoveryDecision f u) := fun f u hu => by
    unfold recoveryDecision
    split
    · exact hu.recoveredBroken
    · exact hu.recovered ⟨rfl, rfl⟩
    all_goals exact hu.of_eq ⟨rfl, rfl⟩
  unfold copyBRead anchorsRead
  split
  · exact hdecision _ _ (h.freed ⟨rfl, rfl⟩)
  · exact Ungranted.recoveredBroken (h.freed ⟨rfl, rfl⟩)
  · exact h.ended.recovered ⟨rfl, rfl⟩

theorem Ungranted.scanCompleted {s : State} (h : Ungranted s) (f : AnchorCopy) (next : Word) :
    Ungranted (scanComplete f next s) := by
  have hdisarmed : ∀ u, Ungranted u → Ungranted (recoveryDisarmed u) := fun u hu => hu.recovered ⟨rfl, rfl⟩
  have hu : ∀ j, Ungranted (s.withJournal j) := fun j => h.of_eq ⟨rfl, rfl⟩
  unfold scanComplete recoveryOutcome
  split
  · exact hdisarmed _ (hu _)
  · exact hdisarmed _ (hu _)
  · unfold revertToNewest
    split
    · exact h.of_eq ⟨rfl, rfl⟩
    · exact (hu _).recoveredBroken
  · unfold resumeRolling
    split
    · exact h.of_eq ⟨rfl, rfl⟩
    · exact (hu _).recoveredBroken
  · exact hdisarmed _ (hu _)
  · exact (hu _).recoveredBroken

theorem Ungranted.scanAccepted {s : State} (h : Ungranted s) (f : AnchorCopy) (slot : Nat) (e : Entry) :
    Ungranted (scanAccept f slot e s) := by
  unfold scanAccept
  split
  · exact h.of_eq ⟨rfl, rfl⟩
  · refine Ungranted.scanCompleted ?_ f _
    exact h.of_eq ⟨rfl, rfl⟩

theorem Ungranted.scanned {s : State} (h : Ungranted s) (f : AnchorCopy) (slot : Nat) (ws : List Word) :
    Ungranted (scanDone f slot ws s) := by
  unfold scanDone
  split
  · unfold scanHead
    split
    · split
      · exact h.ended.scanAccepted _ _ _
      · exact h.ended.recoveredBroken
    · exact h.ended.recoveredBroken
  · unfold scanNext
    split
    · split
      · exact h.ended.scanAccepted _ _ _
      · exact h.ended.scanCompleted _ _
    · exact h.ended.scanCompleted _ _

theorem Ungranted.armed {s : State} (h : Ungranted s) (action : RestartAction) (count : Nat) :
    Ungranted (armAnchorDone action count s) := by
  have hrelease : ∀ u, Ungranted u → Ungranted (armRelease count u) := fun u hu => by
    unfold armRelease
    split
    · exact hu
    · exact hu.released count
  have htimer : ∀ u, (armTimer u).host = u.host ∧ (armTimer u).port.tenancy = u.port.tenancy := fun u => by
    unfold armTimer
    split <;> exact ⟨rfl, rfl⟩
  unfold armAnchorDone
  refine Ungranted.exclusiveEnded (Ungranted.of_eq (Ungranted.offered (Ungranted.flagged ?_ _) _) (htimer _))
  refine Ungranted.of_eq (hrelease (anchorWritten (endTenancy s)) (h.freed ⟨rfl, rfl⟩)) ?_
  exact ⟨rfl, rfl⟩

/-- A step of the engine's whose accesses were all answered OK leaves no word GRANTED. -/
theorem Ungranted.workCompleted {s : State} (h : Ungranted s) {w : Work} (hw : w.ofHost = false) (ws : List Word) :
    Ungranted (completeWork w ws s) := by
  have hwritten : Ungranted (anchorWritten s) := h.of_eq ⟨rfl, rfl⟩
  have hended : Ungranted (anchorWritten (endTenancy s)) := h.freed ⟨rfl, rfl⟩
  cases w with
  | hostRead | hostWrite | hostFirstWrite | hostRelease | hostLose | hostOldValue | hostUndo => cases hw
  | markRoom | armRoom => exact (hwritten.released 1).issued rfl rfl rfl
  | markAppend sources limit stamp => exact Ungranted.appended (h.of_eq (by simp)) sources limit
  | markLapseEnd sources limit =>
    have hcleared : Ungranted (clearLapsed (anchorWritten s)) := h.of_eq ⟨rfl, rfl⟩
    exact hcleared.limited sources limit
  | markLimit sources count =>
    exact (hwritten.released count).freed (by simp [completeWork, markLimitDone, markFinish, emptyTouched])
  | armAppend => exact h.issued (by simp [completeWork, armAppendDone, armAnchorStep]) rfl rfl
  | armAnchor action count => exact h.armed action count
  | disarm => exact Ungranted.exclusiveEnded (Ungranted.woken (h.freed ⟨rfl, rfl⟩))
  | release count => exact (hended.released count).flagged _
  | discard => exact (hended.dropped.flagged _).exclusiveEnded
  | rollbackAnchor =>
    refine h.freed ?_
    simp only [completeWork, rollbackAnchorDone]
    split <;> exact ⟨rfl, rfl⟩
  | restoreRead => exact h.restoreRead ws
  | restoreWrite link => exact h.restored link
  | settleVoid =>
    simp only [completeWork, settleVoidDone]
    split
    · exact h.issued rfl rfl rfl
    · exact h.ended
  | settleAnchor => exact h.settledBack
  | brokenAnchor => exact hwritten.broken
  | clearFirst => exact h.issued rfl rfl rfl
  | clearSecond | clearSlot | readCopyA | peek => exact h.freed ⟨rfl, rfl⟩
  | formatAnchor => exact h.freed (by simp [completeWork, formatDone])
  | readCopyB a => exact h.copiesRead a _
  | scan anchor slot => exact h.scanned anchor slot ws

/-- A step of the engine's failed by an access answered ERROR leaves no word GRANTED. -/
theorem Ungranted.workFailed {s : State} (h : Ungranted s) {w : Work} (hw : w.ofHost = false) : Ungranted (failWork w s) := by
  cases w with
  | hostRead | hostWrite | hostFirstWrite | hostRelease | hostLose | hostOldValue | hostUndo => cases hw
  | markRoom | markLapseEnd | markLimit => exact h.anchorFailed.ended.flagged _
  | armRoom | armAnchor => exact (h.anchorFailed.ended.flagged _).exclusiveEnded
  | markAppend => exact (h.ended.flagged _).flagged _
  | armAppend => exact ((h.ended.flagged _).flagged _).exclusiveEnded
  | disarm | discard => exact h.anchorFailed.ended.exclusiveEnded
  | release => exact h.anchorFailed.ended
  | rollbackAnchor | settleAnchor => exact ((h.flagged _).flagged _).rollbackFailed
  | restoreRead | restoreWrite | settleVoid => exact (h.flagged _).rollbackFailed
  | brokenAnchor => exact (h.flagged _).broken
  | clearFirst | clearSecond | clearSlot => exact Ungranted.exclusiveEnded (h.freed ⟨rfl, rfl⟩)
  | formatAnchor => exact Ungranted.exclusiveEnded (h.freed ⟨rfl, rfl⟩)
  | readCopyA => exact h.freed ⟨rfl, rfl⟩
  | readCopyB a => exact (h.flagged _).copiesRead a .unreadable
  | scan => exact (h.ended.flagged _).recoveredBroken
  | peek => exact h.freed ⟨rfl, rfl⟩

/-! ## Steps of the host's -/

/-- A change that leaves the memory port's client alone, or the host port as it was, keeps a GRANTED word. -/
theorem GrantedWord.of_kept {c : HostAccess} {s t : State} (h : GrantedWord c s)
    (hk : t.host.current = s.host.current) : GrantedWord c t := ⟨hk.trans h.current, h.phase, h.position⟩

theorem GrantedWord.woken {c : HostAccess} {s : State} (h : GrantedWord c s) : GrantedWord c (wake s) :=
  ⟨(wake_wordKept s).granted c h.current h.phase, h.phase, h.position⟩

theorem GrantedWord.released {c : HostAccess} {s : State} (h : GrantedWord c s) (n : Nat) :
    GrantedWord c (releaseEpochs n (anchorWritten s)) := by
  refine GrantedWord.woken ?_
  exact h.of_kept rfl

theorem GrantedWord.dropped {c : HostAccess} {s : State} (h : GrantedWord c s) :
    GrantedWord c (releaseJournal (anchorWritten s)) := by
  refine GrantedWord.woken ?_
  exact h.of_kept rfl

/-- An access issued for a step of the host's, its word as it was. -/
theorem GrantedWord.issued {c : HostAccess} {s t : State} {x : Tenancy} (h : GrantedWord c s)
    (hh : t.host.current = s.host.current) (ht : t.port.tenancy = some x) (hx : x.work.ofHost = true) : HostWordOk t :=
  (h.of_kept hh).hostWordOk ht hx

/-- A word answered at the end of its tenancy leaves the port settled. -/
theorem GrantedWord.finished {c : HostAccess} {s : State} (h : GrantedWord c s) (a : WordResult) :
    HostWordOk (finishWord a s) :=
  Ungranted.hostWordOk ⟨answerWord_settled a c (endTenancy s) h.current, by simp [finishWord]⟩

/-- A granted word is held, or answered as its hold has reached the limit (R65, R66). -/
theorem GrantedWord.held {c : HostAccess} {s : State} (h : GrantedWord c s) : HostWordOk (holdWord s) := by
  have hheld : Ungranted (s.held c) := by
    refine ⟨⟨fun d hd => ?_, fun hn => nomatch hn⟩, by simp [State.held]⟩
    cases hd
    exact ⟨.inr rfl, h.position⟩
  rw [holdWord_eq h.current]
  split
  · exact (hheld.of_kept (answerWord_wordKept rfl (by simp [HostAccess.heldOver]))).hostWordOk
  · exact hheld.hostWordOk

theorem GrantedWord.releasesOrLoses {c : HostAccess} {s : State} (h : GrantedWord c s) : HostWordOk (releaseOrLose s) := by
  unfold releaseOrLose
  split <;> exact h.issued rfl rfl rfl

/-- A granted write's treatment (R55 to R61). -/
theorem GrantedWord.writeTreated {c : HostAccess} {s : State} (h : GrantedWord c s) (m : Mode) :
    HostWordOk (treatWrite m c s) := by
  have hforward : HostWordOk (forwardWrite c s) := h.issued rfl rfl rfl
  have hpolicy : HostWordOk (applyPolicy s) := by
    unfold applyPolicy
    split
    · exact h.held
    · exact h.finished _
    · exact h.releasesOrLoses
    · exact h.issued rfl rfl rfl
  have hjournaled : HostWordOk (journaledWrite c s) := by
    unfold journaledWrite
    split
    · exact hforward
    · split
      · exact h.issued rfl rfl rfl
      · exact hpolicy
  unfold treatWrite
  split
  · exact hforward
  · unfold treatJournalWrite
    split
    · split
      · exact hforward
      · exact hjournaled
    · split
      · exact hforward
      · exact h.issued rfl rfl rfl
    · exact hforward
    · exact hforward
    · exact h.held
    · exact h.held
    · exact h.finished _
    · exact h.finished _
  · exact h.finished _

/-- The granted word's treatment (Table 3-1). -/
theorem GrantedWord.treated {c : HostAccess} {s : State} (h : GrantedWord c s) (m : Mode) : HostWordOk (treatWord m c s) := by
  unfold treatWord
  split
  · unfold treatRead
    split
    · exact h.held
    · exact h.issued rfl rfl rfl
  · exact h.writeTreated m

/-- The grant of a word that asks (R52). -/
theorem HostWordOk.wordGranted {s : State} (h : HostWordOk s) (hg : s.grantsHost = true) :
    HostWordOk (grantWord (grantTo .host s)) := by
  have hfree : s.port.tenancy = none := by
    simp only [State.grantsHost, Bool.and_eq_true, Option.isNone_iff_eq_none] at hg
    exact hg.1.1
  obtain ⟨hsettled, -⟩ := h.ungranted (by simp [hfree])
  unfold grantWord
  split
  · rename_i c hc
    obtain ⟨-, hposition⟩ := hsettled.1 c hc
    exact GrantedWord.treated (c := c.granted (s.regions.resolve c.wordAddress)) ⟨rfl, rfl, hposition⟩ _
  · exact Ungranted.hostWordOk ⟨hsettled, by simp [hfree]⟩

/-- The work of a granted word's tenancy goes on with that word. -/
theorem GrantedWord.goesOn {c : HostAccess} {s : State} (h : GrantedWord c s) {f : HostAccess → State → State}
    (hf : HostWordOk (f c s)) : HostWordOk (withWord f s) := by
  rw [withWord_of_current h.current]
  exact hf

/-- A step of the host's whose accesses were all answered OK. -/
theorem GrantedWord.workCompleted {c : HostAccess} {s : State} (h : GrantedWord c s) {w : Work} (hw : w.ofHost = true)
    (ws : List Word) : HostWordOk (completeWork w ws s) := by
  cases w with
  | hostRead | hostWrite => exact h.finished _
  | hostFirstWrite =>
    have hdropped : GrantedWord c (setFlag .journalDropped (releaseJournal (anchorWritten s))) := h.dropped.of_kept rfl
    exact hdropped.goesOn (hdropped.issued rfl rfl rfl)
  | hostRelease =>
    refine (h.released 1).goesOn ?_
    unfold roomAgain
    split
    · exact (h.released 1).issued rfl rfl rfl
    · split
      · exact (h.released 1).held
      · exact (h.released 1).releasesOrLoses
  | hostLose =>
    have hlost : GrantedWord c (lapse (releaseJournal (anchorWritten s))) := h.dropped.of_kept rfl
    exact hlost.goesOn (hlost.issued rfl rfl rfl)
  | hostOldValue => exact h.goesOn (h.issued rfl rfl rfl)
  | hostUndo => exact h.goesOn (h.issued (by simp [undoAppended, forwardWrite, undoAdvance]) rfl rfl)
  | _ => cases hw

/-- A step of the host's failed by an access answered ERROR. -/
theorem GrantedWord.workFailed {c : HostAccess} {s : State} (h : GrantedWord c s) {w : Work} (hw : w.ofHost = true) :
    HostWordOk (failWork w s) := by
  have hbroken : GrantedWord c (anchorFailure s) := by
    refine GrantedWord.woken ?_
    exact h.of_kept rfl
  cases w with
  | hostRead | hostWrite | hostOldValue | hostUndo => exact h.finished _
  | hostFirstWrite | hostRelease | hostLose => exact hbroken.finished _
  | _ => cases hw

/-- Memory's answer issues the next access, or completes or fails the step whose client holds the port (R112, R119). -/
theorem HostWordOk.memoryAnswer {s t : State} (h : HostWordOk s) (ok : Bool) (d : Word)
    (ht : exec (.memoryAnswer ok d) s = .next t) : HostWordOk t := by
  rw [exec_memoryAnswer, execMemoryAnswer, Host.Outcome.next.injEq] at ht
  subst ht
  cases hp : s.port.tenancy with
  | none => exact h
  | some x =>
    obtain ⟨w, x⟩ := x
    obtain ⟨hnext, hcomplete, hfail⟩ : (∀ y, HostWordOk (s.withTenancy (some ⟨w, y⟩))) ∧
        (∀ ws, HostWordOk (completeWork w ws s)) ∧ HostWordOk (failWork w s) := by
      cases hw : w.ofHost with
      | true =>
        obtain ⟨c, hc⟩ := h.grantedWord hp hw
        exact ⟨fun y => hc.issued rfl rfl hw, hc.workCompleted hw, hc.workFailed hw⟩
      | false =>
        have hu := h.ungranted (fun y hy => by rw [hp, Option.some.injEq] at hy; exact hy ▸ hw)
        exact ⟨fun y => (hu.issued (t := s.withTenancy (some ⟨w, y⟩)) rfl rfl hw).hostWordOk, fun ws => (hu.workCompleted hw ws).hostWordOk,
          (hu.workFailed hw).hostWordOk⟩
    cases ok with
    | false => exact hfail
    | true =>
      simp only [if_true, accessAnswered]
      split
      · exact hnext _
      · exact hcomplete _
      · exact hnext _
      · exact hcomplete _

/-- A grant to the engine leaves no word GRANTED. -/
theorem HostWordOk.begun {s t : State} (h : HostWordOk s) (k : BegunOrNot s t) : HostWordOk t := by
  obtain rfl | ⟨hfree, hhost, -, -, -, hwork⟩ := k
  · exact h
  · obtain ⟨hsettled, -⟩ := h.ungranted (by simp [hfree])
    exact Ungranted.hostWordOk ⟨by rw [hhost]; exact hsettled, fun x hx => (hwork x hx).1⟩

/-! ## Every step -/

/-- The hold limit set answers a word at most; every other item leaves the two ports alone (R66, R176). -/
theorem judgeSet_wordKept (item : Byte) (v : Word) (s : State) : WordKept s (judgeSet item v s).2 := by
  by_cases h5 : item.toNat = 5
  · simp only [judgeSet, itemSet, h5]
    split
    · rename_i t ht
      obtain ⟨n, -, rfl⟩ := Option.map_eq_some_iff.1 ht
      exact .trans (t := s.withSettings { s.settings with holdLimit := n }) (.of_eq ⟨rfl, rfl⟩) (expireIfReached_wordKept _)
    · exact WordKept.refl s
  · exact (judgeSet_aside h5 v s).wordKept

theorem judgeRollback_wordKept (depth : Byte) (s : State) : WordKept s (judgeRollback depth s).2 := by
  have htake : ∀ origin, WordKept s (takeRollback origin depth s).2 := fun origin => by
    unfold takeRollback
    split
    · exact WordKept.refl s
    · split
      · exact .of_eq ⟨rfl, rfl⟩
      · exact WordKept.refl s
  unfold judgeRollback
  split
  case h_6 => split <;> exact WordKept.refl s
  case h_7 | h_8 =>
    split
    · exact WordKept.refl s
    · split
      · exact WordKept.refl s
      · exact htake _
  all_goals exact WordKept.refl s

theorem judgeFormat_wordKept (sizeCode : Byte) (s : State) : WordKept s (judgeFormat sizeCode s).2 := by
  unfold judgeFormat
  split
  · exact WordKept.refl s
  · split
    · unfold takeFormat
      split
      case h_6 | h_7 | h_8 =>
        split
        · exact WordKept.refl s
        · exact .of_eq ⟨rfl, rfl⟩
      case h_5 => split <;> exact WordKept.refl s
      all_goals exact WordKept.refl s
    · exact WordKept.refl s

theorem judgeRestart_wordKept (s : State) : WordKept s (judgeRestart s).2 := by
  unfold judgeRestart
  split
  · exact WordKept.refl s
  · split
    · exact WordKept.refl s
    · exact .trans (t := s.withControl { s.control with halted := false, restartPending := true }) (.of_eq ⟨rfl, rfl⟩)
        (dropWord_wordKept .restart _)

theorem takePfail_wordKept (s : State) : WordKept s (takePfail s) := by
  have hhalt : ∀ u, WordKept u (haltPart u) := fun u => by
    unfold haltPart
    split
    · exact WordKept.refl u
    · exact .trans (t := u.withControl { u.control with halted := true }) (.of_eq ⟨rfl, rfl⟩) (dropWord_wordKept .powerFail _)
  exact .trans (.of_eq (by simp)) (hhalt (offer _ (setFlag _ (s.withControl _))))

theorem takeDue_wordKept (s : State) : WordKept s (takeDue s) :=
  .trans (expireIfReached_wordKept s) (.of_eq (by simp [takeDue]))

theorem passMicros_wordKept (n : Nat) (s : State) : WordKept s (passMicros n s) :=
  .trans (tickHold_wordKept n s) (.of_eq ⟨rfl, rfl⟩)

theorem idle_wordKept (s : State) : WordKept s (idle s) := by
  unfold idle
  split
  · exact WordKept.refl s
  · exact .trans (takeDue_wordKept s) (.trans (passMicros_wordKept 1 _) (.of_eq (by simp [tickLink])))

theorem WordKept.of_branch {s t u : State} {b : Prop} [Decidable b] (hk : WordKept s u)
    (ht : Host.Outcome.next (if b then u else s) = (.next t : Host.Outcome State Fault Refusal)) : WordKept s t := by
  cases ht
  split
  · exact hk
  · exact WordKept.refl s

/-- A command of the link keeps what its judgement keeps. -/
theorem serve_wordKept {c : Instr} {judge : State → Response × State} {s t : State} (h : serve c judge s = .next t)
    (hj : WordKept s (judge s).2) : WordKept s t :=
  serve_leaves h (WordKept.refl s) hj fun _ _ hu => ⟨hu.tenancy, hu.granted, hu.settled⟩

/-- Every command and happening keeps the condition on the host word. -/
theorem HostWordOk.exec {c : Instr} {s t : State} (h : HostWordOk s) (ht : exec c s = .next t) : HostWordOk t := by
  cases c with
  | status | get | tableRead | tableWrite | install | arm | disarm | mark | release | discard | peek | peekRead | marksRead
  | captureSet | captureRead | ackEvents | frameUnknown | frameDiscarded | periodicExpiry | quietExpiry | markPinChange
  | filteredChange | pfailRelease | frameBegin | frameEnd => exact h.of_kept (exec_aside rfl ht).wordKept
  | markTake | arming | disarming | releaseJob | discardTenancy | peekJob | rollbackAnchor | restoreStep | settle
  | formatAnchorClear | formatSlotClear | formatFinalAnchor | recoveryAnchorRead | scanStep => exact h.begun (exec_begun rfl ht)
  | set item v => exact h.of_kept (serve_wordKept ht (unlessHalted_leaves (WordKept.refl s) (judgeSet_wordKept item v s)))
  | rollback depth => exact h.of_kept (serve_wordKept ht (engineCommand_leaves (WordKept.refl s) (judgeRollback_wordKept depth s)))
  | format code => exact h.of_kept (serve_wordKept ht (engineCommand_leaves (WordKept.refl s) (judgeFormat_wordKept code s)))
  | restart => exact h.of_kept (serve_wordKept ht (judgeRestart_wordKept s))
  | hostAccess kind address words => exact h.of_kept (.of_branch (presentRequest_wordKept _ s) ht)
  | hostTenancy =>
    cases ht
    split
    · rename_i hg
      exact h.wordGranted hg
    · exact h
  | memoryAnswer ok d => exact h.memoryAnswer ok d ht
  | holdExpiry =>
    cases ht
    exact h.of_kept (expireIfReached_wordKept s)
  | pfailAssert => exact h.of_kept (.of_branch (takePfail_wordKept s) ht)
  | coldReset =>
    cases ht
    exact Ungranted.hostWordOk ⟨⟨by rintro c ⟨⟩, fun _ => rfl⟩, by rintro x ⟨⟩⟩
  | warmRestart =>
    cases ht
    split
    · refine h.of_kept (.trans ?_ (holdWaiting_wordKept _))
      exact .of_eq ⟨rfl, rfl⟩
    · exact h
  | enterHalted =>
    cases ht
    split
    · exact h.of_kept (.of_eq ⟨rfl, rfl⟩)
    · exact h
  | timestampTick =>
    cases ht
    split
    · exact h
    · exact h.of_kept (.trans (takeDue_wordKept s) (.trans (passMicros_wordKept _ _) (.of_eq ⟨rfl, rfl⟩)))
  | resetEnd straps pfail high selected =>
    cases ht
    split
    · split
      · exact h.of_kept (.trans (t := sampleLevels straps high selected s) (.of_eq ⟨rfl, rfl⟩) (takePfail_wordKept _))
      · exact h.of_kept (.of_eq ⟨rfl, rfl⟩)
    · exact h

/-- Settles O56: the command at the front, or a microsecond, keeps the condition. -/
theorem everyStepKeepsTheHostWord : Obligations.EveryStepKeepsTheHostWord := by
  intro s t h ht
  unfold step at ht
  split at ht
  · cases ht
    exact h.of_kept (idle_wordKept s)
  · rename_i c rest _
    exact HostWordOk.exec (s := s.withPending rest) h ht

end Sys2Proof.Machine
end

section
/-!
SUPPORT. The words the host port treats without their bound: what each treated word leads to, and that requests still presented
do not matter before the access in progress has ended (R49, R50, R185).
-/
namespace Sys2Proof.Machine

/-! ## The bound does not matter -/

/-- With at least the steps left, the bound of `takeWords` does not matter. -/
theorem takeWords_of_le (n m : Nat) (s : State) (hn : s.host.left ≤ n) (hm : s.host.left ≤ m) :
    takeWords n s = takeWords m s := by
  have hidle : ∀ (k : Nat) (u : State), u.host.left = 0 → takeWords k u = u := by
    intro k u hu
    have hc : u.host.current = none := by
      cases hc : u.host.current with
      | none => rfl
      | some c => simp [HostPort.left, hc] at hu
    have hp : u.host.presented = [] := by
      cases hp : u.host.presented with
      | nil => rfl
      | cons r rest => simp [HostPort.left, hp] at hu
    cases k <;> simp [takeWords, hc, hp]
  induction n generalizing m s with
  | zero => rw [hidle 0 s (by omega), hidle m s (by omega)]
  | succ n ih =>
    cases m with
    | zero => rw [hidle (n + 1) s (by omega), hidle 0 s (by omega)]
    | succ m =>
      unfold HostPort.left at hn hm
      simp only [takeWords]
      split
      · rename_i hc
        split
        · rename_i r rest hp
          simp only [hc, hp, List.map_cons, List.sum_cons] at hn hm
          refine ih m _ ?_ ?_ <;>
            simp only [HostPort.left, takePresented, State.withHost_host, HostRequest.access] <;> omega
        · rfl
      · rename_i c hc
        simp only [hc] at hn hm
        split
        · refine ih m _ ?_ ?_ <;> simp only [HostPort.left, State.withCurrent_host] <;> omega
        · split
          · rename_i a _
            obtain ⟨k, hk⟩ := nextWord_deliver_host a c s hc
            refine ih m _ ?_ ?_ <;> simp only [HostPort.left, hk] <;> omega
          · rfl

theorem left_le_wordsLeft (h : HostPort) : h.left ≤ h.wordsLeft := by
  unfold HostPort.left HostPort.wordsLeft
  cases h.current with
  | none => simp
  | some c =>
    simp only [Option.map_some, Option.getD_some]
    omega

/-- The state once the host port has treated the words that it can treat at once (R49, R50, R185). -/
def State.taken (s : State) : State := takeWords s.host.wordsLeft s

theorem takeWords_eq_taken {n : Nat} {s : State} (h : s.host.left ≤ n) : takeWords n s = s.taken :=
  takeWords_of_le _ _ s h (left_le_wordsLeft s.host)

/-! ## What each treated word leads to -/

/-- An IDLE port with nothing presented stays so. -/
theorem taken_idle {s : State} (hc : s.host.current = none) (hp : s.host.presented = []) : s.taken = s := by
  unfold State.taken
  cases s.host.wordsLeft <;> simp [takeWords, hc, hp]

theorem taken_succ (s : State) : s.taken = takeWords (s.host.wordsLeft + 1) s :=
  (takeWords_eq_taken (Nat.le_succ_of_le (left_le_wordsLeft s.host))).symm

/-- An IDLE port takes the request presented longest (R185). -/
theorem taken_presented {r : HostRequest} {rest : List HostRequest} {s : State} (hc : s.host.current = none)
    (hp : s.host.presented = r :: rest) : s.taken = (takePresented r rest s).taken := by
  rw [taken_succ]
  simp only [takeWords, hc, hp]
  apply takeWords_eq_taken
  simp only [HostPort.left, HostPort.wordsLeft, takePresented, State.withHost_host, HostRequest.access, hc, hp, List.map_cons,
    List.sum_cons]
  omega

/-- An access whose words are answered ends (R49). -/
theorem taken_ended {c : HostAccess} {s : State} (hc : s.host.current = some c) (hl : c.words.length ≤ c.position) :
    s.taken = (s.withCurrent none).taken := by
  rw [taken_succ]
  simp only [takeWords, hc, hl, if_true]
  apply takeWords_eq_taken
  simp only [HostPort.left, HostPort.wordsLeft, State.withCurrent_host]
  omega

/-- A word answered at its entry checks leads to the word after it (R50). -/
theorem taken_answered {a : WordResult} {c : HostAccess} {s : State} (hc : s.host.current = some c)
    (hl : c.position < c.words.length) (ha : entryAnswer c s = some a) : s.taken = (nextWord (deliver a c s)).taken := by
  rw [taken_succ]
  simp only [takeWords, hc, Nat.not_le.2 hl, if_false, ha]
  apply takeWords_eq_taken
  obtain ⟨k, hk⟩ := nextWord_deliver_host a c s hc
  simp only [HostPort.left, HostPort.wordsLeft, hk, hc, Option.map_some, Option.getD_some]
  omega

/-- A word past its entry checks asks or is held (R50, R53). -/
theorem taken_waits {c : HostAccess} {s : State} (hc : s.host.current = some c) (hl : c.position < c.words.length)
    (ha : entryAnswer c s = none) : s.taken = presentWord c s := by
  rw [taken_succ, takeWords_presents _ c s hc (Nat.not_le.2 hl) ha]

/-- A word answered goes on to the words after it (R69). -/
theorem answerWord_eq {c : HostAccess} {s : State} (hc : s.host.current = some c) (a : WordResult) :
    answerWord a s = (nextWord (deliver a c s)).taken := by
  simp only [answerWord, hc]
  apply takeWords_eq_taken
  obtain ⟨k, hk⟩ := nextWord_deliver_host a c s hc
  simp only [HostPort.left, HostPort.wordsLeft, hk, hc, Option.map_some, Option.getD_some]
  omega

/-- The words left of an access that make the port treat no other: the induction over them, one answered at a time. -/
theorem taken_induction {P : State → State → Prop}
    (ended : ∀ c s, s.host.current = some c → c.words.length ≤ c.position → s.host.presented = [] →
      P s (s.withCurrent none))
    (answered : ∀ a c s t, s.host.current = some c → c.position < c.words.length → entryAnswer c s = some a →
      s.host.presented = [] → P (nextWord (deliver a c s)) t → P s t)
    (waits : ∀ c s, s.host.current = some c → c.position < c.words.length → entryAnswer c s = none →
      s.host.presented = [] → P s (presentWord c s))
    {c : HostAccess} {s : State} (hc : s.host.current = some c) (hp : s.host.presented = []) : P s s.taken := by
  induction hm : c.words.length - c.position generalizing c s with
  | zero =>
    have hl : c.words.length ≤ c.position := by omega
    rw [taken_ended hc hl, taken_idle (s := s.withCurrent none) rfl hp]
    exact ended c s hc hl hp
  | succ m ih =>
    have hl : c.position < c.words.length := by omega
    cases ha : entryAnswer c s with
    | none =>
      rw [taken_waits hc hl ha]
      exact waits c s hc hl ha hp
    | some a =>
      rw [taken_answered hc hl ha]
      obtain ⟨k, hk⟩ := nextWord_deliver_host a c s hc
      refine answered a c s _ hc hl ha hp (ih (by rw [hk]) (by rw [hk, hp]) ?_)
      simp only
      omega

/-! ## Beside the host port and the memory port -/

/-- The state with this host port and this memory port. -/
def State.seated (h : HostPort) (q : MemoryPort) (s : State) : State := { s with host := h, port := q }

theorem requestMark_seated (x : Source) (h : HostPort) (q : MemoryPort) (s : State) :
    requestMark x (s.seated h q) = (requestMark x s).seated h q := by
  unfold requestMark
  rw [show (s.seated h q).engine.state = s.engine.state from rfl]
  cases s.engine.state <;> rfl

theorem compareAct_seated (i : Fin Config.regionCount) (h : HostPort) (q : MemoryPort) (s : State) :
    compareAct i (s.seated h q) = (compareAct i s).seated h q := by
  unfold compareAct
  split
  · rename_i hm
    rw [if_pos (by exact hm), requestMark_seated]
  · rename_i hm
    rw [if_neg (by exact hm)]

theorem ringReturn_seated (i : Fin Config.regionCount) (h : HostPort) (q : MemoryPort) (s : State) :
    ringReturn i (s.seated h q) = (ringReturn i s).seated h q := by
  unfold ringReturn
  split
  · rename_i hr
    rw [if_pos (by exact hr)]
    rfl
  · rename_i hr
    rw [if_neg (by exact hr)]

/-- Counting does not look at the ports (R35). -/
theorem countFor_seated (t : CountTarget) (g : Option Resolution) (h : HostPort) (q : MemoryPort) (s : State) :
    countFor t g (s.seated h q) = (countFor t g s).seated h q := by
  have hcount : ∀ i, countEntry i (s.seated h q) = (countEntry i s).seated h q := by
    intro i
    unfold countEntry
    split
    · rename_i hm
      rw [if_pos (by exact hm), ← ringReturn_seated, ← compareAct_seated]
      rfl
    · rename_i hm
      rw [if_neg (by exact hm)]
      rfl
  unfold countFor
  split
  · split
    · rename_i hi
      rw [if_pos (by exact hi), hcount]
    · rename_i hi
      rw [if_neg (by exact hi)]
  · rfl

/-- Nor does the QUIET timer (R85). -/
theorem reportJournalWrite_seated (c : HostAccess) (h : HostPort) (q : MemoryPort) (s : State) :
    reportJournalWrite c (s.seated h q) = (reportJournalWrite c s).seated h q := by
  unfold reportJournalWrite
  split
  · rename_i hw
    rw [if_pos (by exact hw)]
    rfl
  · rename_i hw
    rw [if_neg (by exact hw)]

/-- A word answered DONE: its answer on the bus, and besides it the count of its region and the QUIET timer (R35, R69, R85). -/
theorem deliver_done (d : Option Word) (c : HostAccess) (s : State) : deliver (.done d) c s =
    (reportJournalWrite c (countFor c.countTarget c.grant s)).seated
      { s.host with answers := s.host.answers ++ [.done d] } s.port := by
  rw [← reportJournalWrite_seated, ← countFor_seated]
  rfl

/-! ## Requests still presented -/

/-- The state with these requests presented. -/
def State.presenting (p : List HostRequest) (s : State) : State := s.withHost { s.host with presented := p }

/-- A word's answer does not look at the requests presented. -/
theorem deliver_presenting (a : WordResult) (c : HostAccess) (p : List HostRequest) (s : State) :
    deliver a c (s.presenting p) = (deliver a c s).presenting p := by
  cases a with
  | done d =>
    rw [deliver_done, deliver_done, show s.presenting p = s.seated { s.host with presented := p } s.port from rfl,
      countFor_seated, reportJournalWrite_seated]
    rfl
  | fault x =>
    obtain ⟨kind, _, _, _, _, _, _, _⟩ := c
    cases x <;> cases kind <;> rfl

theorem nextWord_presenting (p : List HostRequest) (s : State) :
    nextWord (s.presenting p) = (nextWord s).presenting p := by
  unfold nextWord
  rw [show (s.presenting p).host.current = s.host.current from rfl]
  split <;> rfl

theorem presentWord_presenting (c : HostAccess) (p : List HostRequest) (s : State) :
    presentWord c (s.presenting p) = (presentWord c s).presenting p := by
  unfold presentWord
  split
  · rename_i h
    rw [if_pos (by exact h)]
    rfl
  · rename_i h
    rw [if_neg (by exact h)]
    rfl

/-- Requests presented behind an access stay as they are while a word of it asks or is held; once it has ended, they are
taken (R185). -/
theorem taken_presenting (p : List HostRequest) {c : HostAccess} {s : State} (hc : s.host.current = some c)
    (hp : s.host.presented = []) :
    (s.presenting p).taken = if s.taken.host.current = none then (s.taken.presenting p).taken else s.taken.presenting p := by
  refine taken_induction (P := fun s t => (s.presenting p).taken =
    if t.host.current = none then (t.presenting p).taken else t.presenting p) ?_ ?_ ?_ hc hp
  · intro c s hc hl _
    rw [taken_ended (s := s.presenting p) hc hl]
    exact (if_pos rfl).symm
  · intro a c s t hc hl ha _ ht
    rw [taken_answered (s := s.presenting p) hc hl ha, deliver_presenting, nextWord_presenting, ht]
  · intro c s hc hl ha _
    rw [taken_waits (s := s.presenting p) hc hl ha, presentWord_presenting, if_neg]
    unfold presentWord
    split <;> simp

end Sys2Proof.Machine
end

section
/-!
PROOFS. A host access taken: its first word asks or is held, is answered at its entry checks, or waits behind another access
(R49, R50, R51, R53, R185).
-/
namespace Sys2Proof.Machine

/-! ## HOST_ACCESS (R49, R185) -/

theorem exec_hostAccess {kind : AccessKind} {address : Addr} {words : List HostWord} {s : State}
    (hr : s.control.resetHeld = false) (hw : requestWellFormed address words = true) :
    exec (.hostAccess kind address words) s = .next (presentRequest ⟨kind, address, words⟩ s) := by
  have h : (!s.control.resetHeld && requestWellFormed address words) = true := by simp [hr, hw]
  exact congrArg Host.Outcome.next (if_pos h)

/-- A busy port leaves the request presented (R185). -/
theorem presentRequest_busy {s : State} (hc : s.host.current ≠ none) (r : HostRequest) :
    presentRequest r s = s.presenting (s.host.presented ++ [r]) := by
  have h : s.host.current.isNone = false := by simpa [Option.isSome_iff_ne_none] using hc
  simp only [presentRequest, takeIfIdle, State.withHost_host, h]
  rfl

/-- An IDLE port takes the request at once (R49). -/
theorem presentRequest_idle {s : State} (hc : s.host.current = none) (hp : s.host.presented = []) (r : HostRequest) :
    presentRequest r s = (s.withHost ⟨some r.access, s.host.answers, []⟩).taken := by
  have hs : s.withHost { s.host with presented := s.host.presented ++ [r] } = s.presenting [r] := by
    simp [hp, State.presenting]
  have h : presentRequest r s = (s.presenting [r]).taken := by
    rw [presentRequest, hs]
    exact if_pos (by simp [State.presenting, hc])
  rw [h, taken_presented (r := r) (rest := []) (s := s.presenting [r]) hc rfl]
  rfl

/-- A well-formed request carries a word (Table 12-1). -/
theorem words_pos_of_wellFormed {address : Addr} {words : List HostWord} (h : requestWellFormed address words = true) :
    0 < words.length := by
  simp only [requestWellFormed, Bool.and_eq_true, decide_eq_true_eq] at h
  omega

/-! ## The entry checks (R50) -/

theorem haltedForHost_iff (s : State) : s.haltedForHost = true ↔ s.control.halted = true ∨ s.engine.state = .halted := by
  simp [State.haltedForHost]

/-- The checks of a word not skipped pass while the part runs and the word lies in data space, but for a write without
lanes. -/
theorem entryAnswer_none {c : HostAccess} {s : State} (hs : c.skipping = false)
    (hh : ¬ (s.control.halted = true ∨ s.engine.state = .halted)) (hd : c.wordAddress < s.dataSpaceEnd)
    (hl : c.kind = .write → c.word.lanes ≠ 0) : entryAnswer c s = none := by
  have hhalt : s.haltedForHost = false := Bool.eq_false_iff.2 fun h => hh ((haltedForHost_iff s).1 h)
  simpa [entryAnswer, hs, hhalt, State.inDataSpace, hd] using hl

/-- A write word without lanes that passes the other checks is answered DONE (R50 check 3). -/
theorem entryAnswer_laneless {c : HostAccess} {s : State} (hs : c.skipping = false)
    (hh : ¬ (s.control.halted = true ∨ s.engine.state = .halted)) (hd : c.wordAddress < s.dataSpaceEnd)
    (hk : c.kind = .write) (hl : c.word.lanes = 0) : entryAnswer c s = some (.done none) := by
  have hhalt : s.haltedForHost = false := Bool.eq_false_iff.2 fun h => hh ((haltedForHost_iff s).1 h)
  simp [entryAnswer, hs, hhalt, State.inDataSpace, hd, hk, hl]

/-- A word not skipped is answered POWER_FAIL while the part is halted, and else OUT_OF_SPACE above data space (R50). -/
theorem entryAnswer_fault {c : HostAccess} {s : State} (hs : c.skipping = false)
    (h : (s.control.halted = true ∨ s.engine.state = .halted) ∨ s.dataSpaceEnd ≤ c.wordAddress) :
    entryAnswer c s = some (.fault (if s.haltedForHost then .powerFail else .outOfSpace)) := by
  cases hh : s.haltedForHost with
  | true => simp [entryAnswer, hs, hh]
  | false =>
    have hd : s.dataSpaceEnd ≤ c.wordAddress := h.resolve_left fun h => by simp [(haltedForHost_iff s).2 h] at hh
    simp [entryAnswer, hs, hh, State.inDataSpace, Nat.not_lt.2 hd]

/-- The word of a state is answered at its entry checks and so are the words after it, as an answer of that word goes on. -/
theorem taken_eq_answerWord {a : WordResult} {c : HostAccess} {s : State} (hc : s.host.current = some c)
    (hl : c.position < c.words.length) (ha : entryAnswer c s = some a) : s.taken = answerWord a s := by
  rw [taken_answered hc hl ha, answerWord_eq hc]

/-! ## Presented behind another access -/

/-- An answered word with requests presented: while the access goes on they stay, and once it has ended the first of them is
taken as if it came then (R185). -/
theorem answerWord_presenting (a : WordResult) (p : List HostRequest) {c : HostAccess} {s : State}
    (hc : s.host.current = some c) (hp : s.host.presented = []) : answerWord a (s.presenting p) =
      if (answerWord a s).host.current = none then ((answerWord a s).presenting p).taken
      else (answerWord a s).presenting p := by
  obtain ⟨k, hk⟩ := nextWord_deliver_host a c s hc
  rw [answerWord_eq (s := s.presenting p) hc, deliver_presenting, nextWord_presenting, answerWord_eq hc]
  exact taken_presenting p (by rw [hk]) (by rw [hk, hp])

theorem presenting_self {p : List HostRequest} {s : State} (h : s.host.presented = p) : s.presenting p = s := by
  subst h
  rfl

/-- With nothing presented the port treats the words of one access alone. -/
theorem taken_presents_none {c : HostAccess} {s : State} (hc : s.host.current = some c) (hp : s.host.presented = []) :
    s.taken.host.presented = [] := by
  refine taken_induction (P := fun _ t => t.host.presented = []) (fun c s _ _ hp => hp) (fun _ _ _ _ _ _ _ _ h => h) ?_ hc hp
  intro c s _ _ _ hp
  unfold presentWord
  split <;> exact hp

/-- Settles O29: the first word of an access taken, a request behind another access, and the request taken as that access
ends. -/
theorem hostAccessAsksOrIsHeld : Obligations.HostAccessAsksOrIsHeld := by
  intro kind address words s hreset hwf
  refine ⟨fun hc hp hhalted hstate haddress hlanes => ?_, fun hc => ?_, fun a more hc hp => ?_⟩
  · have hpos := words_pos_of_wellFormed hwf
    have hnone : entryAnswer (HostRequest.access ⟨kind, address, words⟩)
        (s.withHost ⟨some (HostRequest.access ⟨kind, address, words⟩), s.host.answers, []⟩) = none := by
      refine entryAnswer_none rfl (by simp [hhalted, hstate]) haddress fun hk => ?_
      obtain ⟨w, rest, rfl⟩ := List.exists_cons_of_length_pos hpos
      exact hlanes hk w rfl
    rw [exec_hostAccess hreset hwf, presentRequest_idle hc hp, taken_waits rfl hpos hnone, presentWord]
    cases hi : s.engine.inRecovery <;> simp [hi, State.withCurrent, State.withHost, HostRequest.access]
  · rw [exec_hostAccess hreset hwf, presentRequest_busy hc]
    rfl
  · intro u
    obtain ⟨c, hc⟩ := Option.ne_none_iff_exists'.1 hc
    have hs : answerWord a s = if u.host.current = none then (u.presenting s.host.presented).taken
        else u.presenting s.host.presented :=
      answerWord_presenting a s.host.presented (s := s.presenting []) hc rfl
    refine ⟨fun hu => by rw [hs, if_neg hu]; rfl, fun hu => ?_⟩
    have hup : u.host.presented = [] := (answerWord_settled a c (s.presenting []) hc).2 hu
    have hureset : u.control.resetHeld = false := by simpa [u] using hreset
    have hnext : (u.presenting s.host.presented).taken =
        ((u.withHost ⟨some (HostRequest.access ⟨kind, address, words⟩), u.host.answers, []⟩).presenting more).taken :=
      taken_presented (s := u.presenting s.host.presented) hu hp
    rw [if_pos hu, hnext, taken_presenting more rfl rfl] at hs
    refine ⟨_, by rw [exec_hostAccess hureset hwf, presentRequest_idle hu hup], fun hmore => ?_, fun ht => ?_⟩
    · subst hmore
      have htp := taken_presents_none
        (s := u.withHost ⟨some (HostRequest.access ⟨kind, address, words⟩), u.host.answers, []⟩) rfl rfl
      rw [presenting_self htp] at hs
      rw [hs]
      split
      · rename_i htc
        exact taken_idle htc htp
      · rfl
    · rw [hs, if_neg ht]
      rfl

/-! ## Answered at the entry checks -/

/-- A word without a region answered DONE goes out on the bus and nothing more (R35, R69). -/
theorem deliver_done_ungranted {c : HostAccess} (hg : c.grant = none) (d : Option Word) (s : State) :
    deliver (.done d) c s = logAnswer (.done d) s := by
  simp [deliver, countFor, reportJournalWrite, hg, WordResult.answer]

/-- Write words without lanes, in data space with the part not HALTED, are answered DONE one by one (R50 check 3). -/
theorem taken_laneless {c : HostAccess} {s : State} (hc : s.host.current = some c) (hp : s.host.presented = [])
    (hs : c.skipping = false) (hg : c.grant = none) (hk : c.kind = .write)
    (hh : ¬ (s.control.halted = true ∨ s.engine.state = .halted))
    (hd : c.address.toNat + 4 * c.words.length ≤ s.dataSpaceEnd) (hl : ∀ w ∈ c.words, w.lanes = 0) :
    s.taken = s.withHost
      ⟨none, s.host.answers ++ List.replicate (c.words.length - c.position) (.done none), []⟩ := by
  induction hm : c.words.length - c.position generalizing c s with
  | zero =>
    rw [taken_ended hc (by omega), taken_idle (s := s.withCurrent none) rfl hp]
    simp [State.withCurrent, State.withHost, hp]
  | succ m ih =>
    have hlt : c.position < c.words.length := by omega
    have hlanes : c.word.lanes = 0 := by
      simp only [HostAccess.word, List.getElem?_eq_getElem hlt, Option.getD_some]
      exact hl _ (List.getElem_mem hlt)
    have ha := entryAnswer_laneless hs hh (c := c) (by simp only [HostAccess.wordAddress]; omega) hk hlanes
    let d : HostAccess := { c with position := c.position + 1, phase := .entry, hold := none, grant := none }
    let u : State := s.withHost ⟨some d, s.host.answers ++ [.done none], []⟩
    have hn : nextWord (deliver (.done none) c s) = u := by
      simp [u, d, deliver_done_ungranted hg, nextWord, logAnswer, hc, State.withCurrent, State.withHost, hp]
    rw [taken_answered hc hlt ha, hn]
    have hm' : c.words.length - (c.position + 1) = m := by omega
    refine (ih (c := d) (s := u) rfl rfl hs rfl hk hh hd hl hm').trans ?_
    simp [u, State.withHost, List.replicate_succ]

/-- Settles O30: the first word's answer, and the words after it. -/
theorem entryChecksAnswerAtOnce : Obligations.EntryChecksAnswerAtOnce := by
  intro kind address words s hreset hc hp hwf halted word after
  have hpos := words_pos_of_wellFormed hwf
  refine ⟨fun hfault => ?_, fun hhalted hk hd hl => ?_⟩
  · let v : State := s.withHost ⟨some word, s.host.answers, []⟩
    let x : FaultCause := if s.haltedForHost then .powerFail else .outOfSpace
    have hv : v.host.current = some word := rfl
    have htaken : exec (.hostAccess kind address words) s = .next (answerWord (.fault x) v) := by
      rw [exec_hostAccess hreset hwf, presentRequest_idle hc hp]
      exact congrArg Host.Outcome.next (taken_eq_answerWord hv hpos (entryAnswer_fault rfl hfault))
    have hx : (halted → x = .powerFail) ∧ (¬ halted → x = .outOfSpace) :=
      ⟨fun h => if_pos ((haltedForHost_iff s).2 h), fun h => if_neg fun h' => h ((haltedForHost_iff s).1 h')⟩
    have hrest : word.restFails v = some (after x) := by
      cases kind with
      | write => rfl
      | read =>
        by_cases h : halted
        · rw [hx.1 h]
          exact if_pos h
        · have hd : s.dataSpaceEnd ≤ address.toNat + 4 := Nat.le_add_right_of_le (hfault.resolve_left h)
          rw [hx.2 h]
          exact (if_neg h).trans (if_pos hd)
    have hanswered := answerWord_faultAnswered x word v hv rfl
    rw [hrest] at hanswered
    obtain ⟨hhost, hcaptures, hevents⟩ := hanswered
    have alike : AlikeForOffers (s.faultedThrough word x (after x)) (v.faultedThrough word x (after x)) :=
      AlikeForOffers.faultedThrough (s := s) (u := v) ⟨rfl, rfl, rfl, rfl⟩ word word x (after x) rfl rfl rfl rfl rfl
    obtain ⟨hengine, hregions, hsources⟩ := answerWord_fault_quiet x v
    exact ⟨_, x, htaken, hx.1, hx.2, hhost, hcaptures.trans alike.captures, hevents.trans alike.events, hengine, by simp [v],
      by simp [v], hregions, hsources, by simp [v], by simp [v]⟩
  · rw [exec_hostAccess hreset hwf, presentRequest_idle hc hp]
    exact congrArg Host.Outcome.next (taken_laneless (c := word) rfl rfl rfl rfl hk hhalted hd hl)

end Sys2Proof.Machine
end

section
/-!
PROOFS. A host word granted: what it issues, or that it is held or refused, by its kind and mode, the engine state and the full
policy (R52 to R59, R61, R65).
-/
namespace Sys2Proof.Machine

/-! ## The grant (R52, R118) -/

/-- The state in which a granted word is treated: the port last granted to the host, the word GRANTED with what the table gives
it (R31, R52, R118). -/
def State.hostGranted (c : HostAccess) (s : State) : State :=
  { s with
    port := ⟨none, .host⟩
    host := { s.host with current := some (c.granted (s.regions.resolve c.wordAddress)) } }

/-- The grant of a word is its treatment by the mode of its address (R52). -/
theorem exec_hostTenancy {c : HostAccess} {s : State} (h : s.grantsHost = true) (hc : s.host.current = some c) :
    exec .hostTenancy s = .next (treatWord (s.regions.resolve c.wordAddress).mode
      (c.granted (s.regions.resolve c.wordAddress)) (s.hostGranted c)) := by
  have ht : s.port.tenancy = none := by
    simp only [State.grantsHost, Bool.and_eq_true, Option.isNone_iff_eq_none] at h
    exact h.1.1
  have hw : grantWord (grantTo .host s) = treatWord (s.regions.resolve c.wordAddress).mode
      (c.granted (s.regions.resolve c.wordAddress)) (s.hostGranted c) := by
    simp only [grantWord, grantTo, State.withPort, hc, ht]
    rfl
  exact congrArg Host.Outcome.next ((if_pos h).trans hw)

/-- A word granted has not reached its hold limit (R52, R66). -/
theorem hold_within_of_grantsHost {c : HostAccess} {s : State} (h : s.grantsHost = true) (hc : s.host.current = some c) :
    s.settings.holdLimit = 0 ∨ c.hold.getD 0 < s.settings.holdLimit := by
  simp only [State.grantsHost, State.hostRequest, HostAccess.asks, hc, Option.any_some, Bool.and_eq_true,
    Bool.not_eq_true'] at h
  obtain ⟨⟨-, -, -, hhold⟩, -⟩ := h
  cases hn : c.hold with
  | none => simp only [Option.getD_none]; omega
  | some n =>
    simp only [holdReached, hn, Bool.and_eq_false_iff, bne_eq_false_iff_eq, decide_eq_false_iff_not] at hhold
    simp only [Option.getD_some]
    omega

/-- A word held as it is granted: the port given back, its timer running (R65). -/
theorem holdWord_hostGranted {c : HostAccess} {s : State} (h : s.grantsHost = true) (hc : s.host.current = some c) :
    holdWord (s.hostGranted c) = { s with
      port := ⟨none, .host⟩
      host := { s.host with
        current := some { c with phase := .held, hold := some (c.hold.getD 0), grant := none } } } := by
  have hw := hold_within_of_grantsHost h hc
  exact holdWord_within (c := c.granted _) (s := s.hostGranted c) rfl hw

/-! ## Reads -/

/-- Settles O31: by whether the word is one that ROLLING holds. -/
theorem grantedReadIsForwardedOrHeld : Obligations.GrantedReadIsForwardedOrHeld := by
  intro c s h hc hk g
  have ht : exec .hostTenancy s = .next (treatRead g.mode (c.granted g) (s.hostGranted c)) := by
    rw [exec_hostTenancy h hc, treatWord, show (c.granted g).kind = .read from hk]
  refine ⟨fun hp => ?_, fun hm hs => ?_⟩
  · have hn : ¬ (g.mode ≠ .pass ∧ (s.hostGranted c).engine.state = .rolling) := fun ⟨hm, hs⟩ => hp.elim hm fun h => h hs
    rw [ht, treatRead, if_neg hn]
    rfl
  · rw [ht, treatRead, if_pos ⟨hm, hs⟩, holdWord_hostGranted h hc]

/-! ## Writes -/

section
variable {c : HostAccess} {s : State} (h : s.grantsHost = true) (hc : s.host.current = some c) (hk : c.kind = .write)
include h hc hk

/-- A granted write is treated by its mode (R55 to R57). -/
theorem exec_hostTenancy_write : exec .hostTenancy s = .next (treatWrite (s.regions.resolve c.wordAddress).mode
    (c.granted (s.regions.resolve c.wordAddress)) (s.hostGranted c)) := by
  rw [exec_hostTenancy h hc, treatWord, show (c.granted _).kind = .write from hk]

/-- A granted JOURNAL write is treated by the engine state (R57). -/
theorem exec_hostTenancy_journal (hm : (s.regions.resolve c.wordAddress).mode = .journal) :
    exec .hostTenancy s =
      .next (treatJournalWrite (c.granted (s.regions.resolve c.wordAddress)) (s.hostGranted c)) := by
  rw [exec_hostTenancy_write h hc hk, hm]
  rfl

/-- A JOURNAL write granted while ARMED and not LAPSED is a journaled write (R57, R59). -/
theorem exec_hostTenancy_armed (hm : (s.regions.resolve c.wordAddress).mode = .journal) (hs : s.engine.state = .armed)
    (hl : s.engine.journal.lapsed = false) :
    exec .hostTenancy s = .next (journaledWrite (c.granted (s.regions.resolve c.wordAddress)) (s.hostGranted c)) := by
  rw [exec_hostTenancy_journal h hc hk hm, treatJournalWrite, show (s.hostGranted c).engine = s.engine from rfl, hs]
  simp only [hl, Bool.false_eq_true, if_false]

/-- A journaled write of a word not in the touched set with free below 2 meets the full policy (R59, R61). -/
theorem exec_hostTenancy_full (hm : (s.regions.resolve c.wordAddress).mode = .journal) (hs : s.engine.state = .armed)
    (hl : s.engine.journal.lapsed = false) (ht : c.wordAddress ∉ s.engine.journal.touched)
    (hf : s.engine.slots - s.engine.journal.fill < 2) :
    exec .hostTenancy s = .next (applyPolicy (s.hostGranted c)) := by
  have hfree : ¬ 2 ≤ (s.hostGranted c).engine.free := Nat.not_le.2 hf
  rw [exec_hostTenancy_armed h hc hk hm hs hl, journaledWrite, if_neg (by exact ht), if_neg hfree]

end

/-- Settles O32: by the mode and the engine state, and while ARMED by the touched set and the room. -/
theorem grantedWriteByStateAndMode : Obligations.GrantedWriteByStateAndMode := by
  intro c s h hc hk g granted j forwards
  have he : (s.hostGranted c).engine = s.engine := rfl
  refine ⟨fun hf => ?_, fun hm hs hl ht hroom => ?_, fun hm hs hfill => ?_, fun hm hs => ?_⟩
  · rcases hf with hpass | ⟨hm, hstate⟩
    · rw [exec_hostTenancy_write h hc hk, show (s.regions.resolve c.wordAddress).mode = .pass from hpass]
      rfl
    · rcases hstate with hs | hs | ⟨hs, hfill⟩ | ⟨hs, hl⟩
      · rw [exec_hostTenancy_journal h hc hk hm, treatJournalWrite, he, hs]
        rfl
      · rw [exec_hostTenancy_journal h hc hk hm, treatJournalWrite, he, hs]
        rfl
      · rw [exec_hostTenancy_journal h hc hk hm, treatJournalWrite, he, hs]
        exact congrArg Host.Outcome.next (if_pos hfill)
      · cases hlapsed : s.engine.journal.lapsed with
        | true =>
          rw [exec_hostTenancy_journal h hc hk hm, treatJournalWrite, he, hs]
          exact congrArg Host.Outcome.next (if_pos hlapsed)
        | false =>
          have ht : c.wordAddress ∈ s.engine.journal.touched := hl.resolve_left (by simp [j, hlapsed])
          rw [exec_hostTenancy_armed h hc hk hm hs hlapsed]
          exact congrArg Host.Outcome.next (if_pos ht)
  · rw [exec_hostTenancy_armed h hc hk hm hs hl, journaledWrite, if_neg (by exact ht), if_pos (by exact hroom)]
    rfl
  · rw [exec_hostTenancy_journal h hc hk hm, treatJournalWrite, he, hs]
    exact congrArg Host.Outcome.next (if_neg hfill)
  · rw [exec_hostTenancy_journal h hc hk hm, treatJournalWrite, he, hs]
    exact congrArg Host.Outcome.next (holdWord_hostGranted h hc)

/-- Settles O34: by the full policy, and under RELEASE by the marks that stand. -/
theorem fullPolicyDecides : Obligations.FullPolicyDecides := by
  intro c s h hc hk g j granted hm hs hl ht hf
  have hset : (s.hostGranted c).settings = s.settings := rfl
  rw [exec_hostTenancy_full h hc hk hm hs hl ht hf, applyPolicy, hset]
  refine ⟨fun hp => ?_, fun m1 m2 rest hp hmarks => ?_, fun hp => ?_⟩
  · rw [hp]
    exact congrArg Host.Outcome.next (holdWord_hostGranted h hc)
  · have hsecond : (s.hostGranted c).engine.journal.marks[1]? = some m2 :=
      congrArg (·[1]?) (show (s.hostGranted c).engine.journal.marks = _ from hmarks)
    rw [hp]
    exact congrArg Host.Outcome.next (releaseOrLose_release hsecond)
  · rcases hp with hp | ⟨hp, hfew⟩
    · rw [hp]
      rfl
    · rw [hp]
      exact congrArg Host.Outcome.next (releaseOrLose_lose hfew)

/-! ## Writes refused -/

/-- A write answered FAULT has the rest of its access answered SKIPPED, and then what is presented behind it is taken (R51,
R185). -/
theorem answerWord_write_fault (x : FaultCause) {c : HostAccess} {s : State} (hc : s.host.current = some c)
    (hk : c.kind = .write) : ∃ rest, (s.host.presented = [] → rest = []) ∧ (answerWord (.fault x) s).host.answers =
      s.host.answers ++ faultTo .write x :: List.replicate (c.words.length - c.position - 1) (faultTo .write .skipped) ++
        rest := by
  let v : State := s.presenting []
  have hfaults := answerWord_faultAnswered x c v hc rfl
  rw [show c.restFails v = some .skipped from if_pos (.inl hk), hk] at hfaults
  obtain ⟨hhost, -, -⟩ := hfaults
  by_cases hp : s.host.presented = []
  · rw [show v = s from presenting_self hp] at hhost
    exact ⟨[], fun _ => rfl, by rw [hhost, List.append_nil]⟩
  · have hs : answerWord (.fault x) s = ((answerWord (.fault x) v).presenting s.host.presented).taken :=
      (answerWord_presenting (.fault x) s.host.presented (s := v) hc rfl).trans (if_pos (by rw [hhost]))
    let u : State := (answerWord (.fault x) v).presenting s.host.presented
    obtain ⟨rest, hrest⟩ := takeWords_answers u.host.wordsLeft u
    refine ⟨rest, fun h => absurd h hp, ?_⟩
    have hu : u.host.answers = (answerWord (.fault x) v).host.answers := rfl
    rw [hs, State.taken, hrest, hu, hhost]
    rfl

/-- Settles O33: the word refused at its grant is answered FAULT with the port given back. -/
theorem grantedWriteRefused : Obligations.GrantedWriteRefused := by
  intro c x s h hc hk _ g hcause
  have hrefused : exec .hostTenancy s = .next (finishWord (.fault x) (s.hostGranted c)) := by
    rcases hcause with ⟨hm, rfl⟩ | ⟨hm, hs, rfl⟩ | ⟨hm, hs, hl, ht, hf, hp, rfl⟩
    · rw [exec_hostTenancy_write h hc hk, show (s.regions.resolve c.wordAddress).mode = .locked from hm]
      rfl
    · rw [exec_hostTenancy_journal h hc hk hm, treatJournalWrite, show (s.hostGranted c).engine = s.engine from rfl, hs]
    · rw [exec_hostTenancy_full h hc hk hm hs hl ht hf, applyPolicy, show (s.hostGranted c).settings = s.settings from rfl, hp]
  let v : State := s.hostGranted c
  have hv : v.host.current = some (c.granted g) := rfl
  have hfinish : finishWord (.fault x) v = answerWord (.fault x) v := rfl
  obtain ⟨rest, hnone, hanswers⟩ := answerWord_write_fault x hv hk
  obtain ⟨hengine, hregions, hsources⟩ := answerWord_fault_quiet x v
  refine ⟨_, rest, hrefused.trans (congrArg Host.Outcome.next hfinish), hanswers, fun hp => ?_,
    fun f hf => answerWord_sets_cause x f (c.granted g) v hv hf, by simp [v, State.hostGranted], hengine, hregions, hsources,
    by simp [v, State.hostGranted], by simp [v, State.hostGranted], by simp [v, State.hostGranted]⟩
  have hfaults := answerWord_faultAnswered x (c.granted g) v hv hp
  rw [show (c.granted g).restFails v = some .skipped from if_pos (.inl hk)] at hfaults
  obtain ⟨hhost, hcaptures, hevents⟩ := hfaults
  have alike : AlikeForOffers (s.faultedThrough (c.granted g) x .skipped) (v.faultedThrough (c.granted g) x .skipped) :=
    AlikeForOffers.faultedThrough (s := s) (u := v) ⟨rfl, rfl, rfl, rfl⟩ _ _ x .skipped rfl rfl rfl rfl rfl
  exact ⟨hnone hp, by rw [hhost], hcaptures.trans alike.captures, hevents.trans alike.events⟩

end Sys2Proof.Machine
end

section
/-!
PROOFS. The hold expiry, and a SET of the hold limit or of the line filter that something falls due by (R66, R68, R69, R81, R82).
-/
namespace Sys2Proof.Machine

/-! ## The hold timer (R66) -/

theorem holdReached_some (limit n : Nat) : holdReached limit (some n) = true ↔ limit ≠ 0 ∧ limit ≤ n := by
  simp [holdReached]

/-- The time run by the held or waiting word has reached the hold limit in force (R66). -/
def State.holdDue (s : State) : Prop :=
  ∃ c n, s.host.current = some c ∧ c.waits ∧ c.hold = some n ∧ s.settings.holdLimit ≠ 0 ∧ s.settings.holdLimit ≤ n

theorem waits_iff (c : HostAccess) : c.waits ↔ c.phase = .held ∨ c.phase = .waiting := Or.comm

/-- A hold that is due expires (R66). -/
theorem expireIfReached_due {s : State} (h : s.holdDue) : expireIfReached s = answerWord (.fault .stallExpired) s := by
  obtain ⟨c, n, hc, hw, hn, hz, hl⟩ := h
  simp only [expireIfReached, hc]
  exact if_pos ⟨(waits_iff c).1 hw, by rw [hn]; exact (holdReached_some _ n).2 ⟨hz, hl⟩⟩

/-- And no other does (R66). -/
theorem expireIfReached_not_due {s : State} (h : ¬ s.holdDue) : expireIfReached s = s := by
  unfold expireIfReached
  split
  · rename_i c hc
    split
    · rename_i hr
      obtain ⟨hw, hr⟩ := hr
      cases hn : c.hold with
      | none => simp [holdReached, hn] at hr
      | some n =>
        rw [hn] at hr
        exact absurd ⟨c, n, hc, (waits_iff c).2 hw, hn, (holdReached_some _ n).1 hr⟩ h
    · rfl
  · rfl

theorem exec_holdExpiry (s : State) : exec .holdExpiry s = .next (expireIfReached s) := rfl

/-! ## What a FAULT answer with a flag leaves (R68, R69) -/

/-- The answer stands first among those added, its flag is set, and the rest of the access is as `State.faultAnswered` says. -/
theorem answerWord_flagged_fault {x : FaultCause} {f : Flag} (hf : x.flag = some f) {c : HostAccess} {s : State}
    (hc : s.host.current = some c) : ∃ rest,
      (answerWord (.fault x) s).host.answers = s.host.answers ++ faultTo c.kind x :: rest ∧
      hasFlag (answerWord (.fault x) s).events.flags f = true ∧ s.faultAnswered c x (answerWord (.fault x) s) := by
  obtain ⟨rest, hr⟩ := answerWord_answers (.fault x) c s hc
  exact ⟨rest, by rw [hr, fault_answer], answerWord_sets_cause x f c s hc hf, answerWord_faultAnswered x c s hc⟩

/-- The words of an access are treated in their order (R49). -/
theorem taken_position {c d : HostAccess} {s : State} (hc : s.host.current = some c) (hp : s.host.presented = [])
    (hd : s.taken.host.current = some d) : c.position ≤ d.position := by
  refine taken_induction (P := fun s t => ∀ c, s.host.current = some c → t.host.current = some d → c.position ≤ d.position)
    ?_ ?_ ?_ hc hp c hc hd
  · intro c s _ _ _ e _ hd
    exact nomatch hd
  · intro a c s t hc _ _ _ ih e he hd
    obtain ⟨k, hk⟩ := nextWord_deliver_host a c s hc
    have hnext := ih _ (by rw [hk]) hd
    obtain rfl : c = e := Option.some.inj (hc.symm.trans he)
    simp only at hnext
    omega
  · intro c s hc _ _ _ e he hd
    obtain rfl : c = e := Option.some.inj (hc.symm.trans he)
    have hpos : d.position = c.position := by
      unfold presentWord at hd
      split at hd <;> rw [← Option.some.inj hd]
    omega

/-- An answered word leaves its access past it (R49). -/
theorem answerWord_position (a : WordResult) {c d : HostAccess} {s : State} (hc : s.host.current = some c)
    (hp : s.host.presented = []) (hd : (answerWord a s).host.current = some d) : c.position < d.position := by
  obtain ⟨k, hk⟩ := nextWord_deliver_host a c s hc
  rw [answerWord_eq hc] at hd
  exact taken_position (by rw [hk]) (by rw [hk, hp]) hd

/-- Settles O35: the expiry that is due, and the one that is not. -/
theorem holdExpiryAnswersTheWord : Obligations.HoldExpiryAnswersTheWord := by
  intro c n s hc hn
  refine ⟨fun hw hz hl => ?_, fun hnot => ?_⟩
  · have he : exec .holdExpiry s = .next (answerWord (.fault .stallExpired) s) := by
      rw [exec_holdExpiry, expireIfReached_due ⟨c, n, hc, hw, hn, hz, hl⟩]
    obtain ⟨rest, hanswers, hflag, hfaults⟩ := answerWord_flagged_fault (x := .stallExpired) rfl hc
    exact ⟨_, rest, he, hanswers, hflag, hfaults, fun d hp hd => answerWord_position _ hc hp hd, by simp, by simp, by simp,
      by simp, by simp, by simp⟩
  · rw [exec_holdExpiry, expireIfReached_not_due]
    rintro ⟨e, m, he, hw, hm, hz, hl⟩
    obtain rfl : c = e := Option.some.inj (hc.symm.trans he)
    obtain rfl : n = m := Option.some.inj (hn.symm.trans hm)
    rcases hnot with hg | h0 | hlt
    · rcases hw with h | h <;> exact nomatch hg.symm.trans h
    · exact hz h0
    · omega

/-! ## SET of the hold limit and of the line filter (R66, R81, R176) -/

/-- A SET whose value its item takes leaves what the item makes of the state, and is answered OK (R176). -/
theorem exec_set_item {item : Byte} {v : Word} {s t : State} (h : s.serving) (hrun : s.control.halted = false)
    (ht : itemSet item v s = some t) (hl : t.link = s.link) : exec (.set item v) s = .next (t.answered .ok []) := by
  have hj : unlessHalted (judgeSet item v) s = (answerOnly .ok, t) := by
    rw [unlessHalted_of_running hrun, judgeSet, ht]
  exact exec_of_judgement h (c := .set item v) rfl rfl hj hl

theorem decodeLineFilter_code (f : LineFilter) : decodeLineFilter f.code = some f := by cases f <;> rfl

/-- A candidate has held its level for the filter in force (R81). -/
def State.changeDue (s : State) : Prop := ∃ n, s.sources.candidate = some n ∧ s.settings.lineFilter.micros ≤ n

/-- A change that is due comes about (R81). -/
theorem changeIfDue_due {s : State} (h : s.changeDue) : changeIfDue s = filteredChange s := by
  obtain ⟨n, hn, hl⟩ := h
  exact if_pos (by simp [candidateDue, hn, hl])

/-- And no other does (R81). -/
theorem changeIfDue_not_due {s : State} (h : ¬ s.changeDue) : changeIfDue s = s := by
  refine if_neg fun hd => ?_
  cases hn : s.sources.candidate with
  | none => simp [candidateDue, hn] at hd
  | some n => exact h ⟨n, hn, by simpa [candidateDue, hn] using hd⟩

/-- The edges a line edge selection selects (R82). -/
theorem selects_iff (e : LineEdge) (rising : Bool) :
    e.selects rising = true ↔ e = .both ∨ e = .rise ∧ rising = true ∨ e = .fall ∧ rising = false := by
  cases e <;> simp [LineEdge.selects]

/-- Settles O14: the expiry and the change that the new setting makes due. -/
theorem setActsAtOnceOnHoldAndFilter : Obligations.SetActsAtOnceOnHoldAndFilter := by
  intro s h hrun
  refine ⟨fun v c n hv hc hw hn hz hl => ?_, fun v f n hv hcand hle => ?_⟩
  · let u : State := s.withSettings { s.settings with holdLimit := v.toNat }
    have hu : u.host.current = some c := hc
    have hset : itemSet 5 v s = some (answerWord (.fault .stallExpired) u) := by
      have hr : inRange 0 65535 v = some v.toNat := if_pos ⟨Nat.zero_le _, hv⟩
      have hdue := expireIfReached_due (s := u) ⟨c, n, hu, hw, hn, hz, hl⟩
      simp only [itemSet]
      rw [← hdue]
      exact congrArg (Option.map (setHoldLimit · s)) hr
    have alike : AlikeForOffers s u := ⟨rfl, rfl, rfl, rfl⟩
    obtain ⟨rest, hanswers, hflag, hfaults⟩ := answerWord_flagged_fault (x := .stallExpired) rfl hu
    refine ⟨_, rest, exec_set_item h hrun hset (by simp [u]), by simp [State.answered, u], by simp [State.answered, u], hanswers,
      hflag, ?_, by simp [State.answered, u], by simp [State.answered, u], by simp [State.answered, u]⟩
    exact alike.faultAnswered c c .stallExpired rfl rfl rfl rfl rfl rfl rfl rfl rfl hfaults
  · intro turned selected
    let u : State := s.withSettings { s.settings with lineFilter := f }
    have hset : itemSet 9 v s = some (filteredChange u) := by
      have hf : decodeLineFilter v.toNat = some f := by rw [hv, decodeLineFilter_code]
      have hdue := changeIfDue_due (s := u) ⟨n, hcand, hle⟩
      rw [← hdue]
      exact congrArg (Option.map (setLineFilter · s)) hf
    have hselects : s.settings.lineEdge.selects (!s.sources.level) = true ↔ selected := by
      rw [selects_iff]
      simp [selected]
    rw [exec_set_item h hrun hset (by simp [u])]
    refine ⟨fun hsel => ?_, fun hsel => ?_⟩
    · have hc : filteredChange u = requestMark .line (offer { cause := .lineEdge } turned) := if_pos (hselects.2 hsel)
      rw [hc]
    · have hc : filteredChange u = turned := if_neg fun hs => hsel (hselects.1 hs)
      rw [hc]

end Sys2Proof.Machine
end

section
/-!
PROOFS. Memory's answers to the accesses of a host word: the forwarded word answered, a memory error, and the UNDO entry that
goes before a journaled write (R14, R22, R35, R54, R55, R59 to R64, R69, R85).
-/
namespace Sys2Proof.Machine

/-! ## A region's count (R35) -/

/-- A word counts in its region, where the target is this (R35, R36). -/
theorem countFor_eq (t : CountTarget) (c : HostAccess) (s : State) : countFor t c.grant s = s.counted t c := by
  unfold countFor State.counted
  rcases c.grant with _ | ⟨m, _ | i⟩
  · rfl
  · rfl
  · simp [RegionConfig.counts]

@[simp] theorem counted_frame (t : CountTarget) (c : HostAccess) (s : State) :
    (s.counted t c).engine.state = s.engine.state ∧ (s.counted t c).engine.journal = s.engine.journal ∧
    (s.counted t c).settings = s.settings ∧ (s.counted t c).sources = s.sources ∧ (s.counted t c).port = s.port := by
  simp [← countFor_eq]

/-! ## Memory's answers to a host word's accesses (R112, R119) -/

/-- The last read of a step answered OK completes its work with the words read (R119). -/
theorem exec_memoryAnswer_lastRead {w : Work} {got : List Word} {s : State} (h : s.lastRead w got) (d : Word) :
    exec (.memoryAnswer true d) s = .next (completeWork w (got ++ [d]) s) := by
  obtain ⟨a, ht⟩ := h
  simp [exec_memoryAnswer, execMemoryAnswer, ht, accessAnswered]

/-- A memory error at a host access that is no anchor write answers the word MEMORY_FAULT (R54, R55, R62 to R64). -/
theorem exec_memoryAnswer_hostError {s : State} (h : s.working .hostRead ∨ s.working .hostWrite ∨ s.working .hostOldValue ∨
    s.working .hostUndo) (d : Word) : exec (.memoryAnswer false d) s = .next (finishWord (.fault .memoryFault) s) := by
  rcases h with h | h | h | h <;> exact exec_memoryAnswer_error h d

/-! ## The end of a host tenancy with its word's answer -/

/-- The answer of the last word of an access ends it (R49). -/
theorem answerWord_last (a : WordResult) {c : HostAccess} {s : State} (hc : s.host.current = some c)
    (hl : c.position + 1 = c.words.length) (hp : s.host.presented = []) : answerWord a s =
      (deliver a c s).withHost ⟨none, s.host.answers ++ [a.answer c.kind], []⟩ := by
  obtain ⟨k, hk⟩ := nextWord_deliver_host a c s hc
  have hd : nextWord (deliver a c s) = (deliver a c s).withHost (nextWord (deliver a c s)).host := by
    unfold nextWord
    split <;> rfl
  rw [answerWord_eq hc, taken_ended (by rw [hk]) (by simp only; omega), taken_idle rfl (by simp [hk, hp]), hd]
  simp [State.withCurrent, State.withHost, hk, hp]

section
variable (a : WordResult) {c : HostAccess} {s : State} (hc : s.host.current = some c)
include hc

/-- The word's answer stands first among those added, and alone when nothing is left to treat (R49, R68). -/
theorem finishWord_answers : ∃ rest, (finishWord a s).host.answers = s.host.answers ++ a.answer c.kind :: rest ∧
    (c.position + 1 = c.words.length ∧ s.host.presented = [] → rest = [] ∧ (finishWord a s).host.current = none) := by
  obtain ⟨rest, hr⟩ := answerWord_answers a c (endTenancy s) hc
  refine ⟨rest, hr, fun ⟨hl, hp⟩ => ?_⟩
  have he : finishWord a s = _ := answerWord_last a (s := endTenancy s) hc hl hp
  have hsame : (endTenancy s).host.answers ++ a.answer c.kind :: rest = (endTenancy s).host.answers ++ [a.answer c.kind] := by
    rw [← hr]
    exact congrArg (·.host.answers) he
  exact ⟨by simpa using hsame, by rw [he]; rfl⟩

/-- The port is given back and the access goes on past the word; the in-chip journal, the engine's state and its anchor record
stay (R49, R112). -/
theorem finishWord_leaves : (finishWord a s).port = ⟨none, s.port.lastSide⟩ ∧
    (∀ e, s.host.presented = [] → (finishWord a s).host.current = some e → c.position < e.position) ∧
    (finishWord a s).engine.journal = s.engine.journal ∧ (finishWord a s).engine.state = s.engine.state ∧
    (finishWord a s).engine.anchor = s.engine.anchor ∧ (finishWord a s).settings = s.settings ∧
    (finishWord a s).link = s.link ∧ (finishWord a s).control = s.control :=
  ⟨by simp [finishWord, endTenancy, State.withTenancy], fun _ hp hd => answerWord_position a (s := endTenancy s) hc hp hd,
    by simp, by simp, by simp, by simp, by simp, by simp⟩

end

/-- The words treated after an answered word leave the engine, the regions and the mark sources as its answer did, for they
are not granted (R35, R50, R69). -/
theorem answerWord_besides (a : WordResult) {c : HostAccess} {s : State} (hc : s.host.current = some c) :
    (answerWord a s).engine = (deliver a c s).engine ∧ (answerWord a s).regions = (deliver a c s).regions ∧
    (answerWord a s).sources = (deliver a c s).sources := by
  obtain ⟨k, hk⟩ := nextWord_deliver_host a c s hc
  have hnext : ∀ e, (nextWord (deliver a c s)).host.current = some e → e.grant = none := fun e he => by
    rw [hk] at he
    rw [← Option.some.inj he]
  rw [answerWord_eq hc, State.taken]
  simpa using takeWords_quiet (nextWord (deliver a c s)).host.wordsLeft _ hnext

/-- What a word answered DONE leaves besides its answer: the count of its region and the QUIET timer (R35, R69, R85). -/
theorem finishWord_done (d : Option Word) {c : HostAccess} {s u : State} (hc : s.host.current = some c)
    (hu : reportJournalWrite c (s.counted c.countTarget c) = u) :
    (finishWord (.done d) s).regions = u.regions ∧ (finishWord (.done d) s).engine = u.engine ∧
    (finishWord (.done d) s).sources = u.sources ∧
    (∀ f, hasFlag u.events.flags f = true → hasFlag (finishWord (.done d) s).events.flags f = true) ∧
    (c.position + 1 = c.words.length ∧ s.host.presented = [] → finishWord (.done d) s =
      { u with host := ⟨none, s.host.answers ++ [.done d], []⟩, port := ⟨none, s.port.lastSide⟩ }) := by
  have hdeliver : deliver (.done d) c (endTenancy s) =
      u.seated { s.host with answers := s.host.answers ++ [.done d] } ⟨none, s.port.lastSide⟩ := by
    rw [deliver_done, show endTenancy s = s.seated s.host ⟨none, s.port.lastSide⟩ from rfl, countFor_seated,
      reportJournalWrite_seated, countFor_eq, hu]
    rfl
  have hd : finishWord (.done d) s = answerWord (.done d) (endTenancy s) := rfl
  obtain ⟨hengine, hregions, hsources⟩ := answerWord_besides (.done d) (s := endTenancy s) hc
  rw [← hd, hdeliver] at hengine hregions hsources
  refine ⟨hregions, hengine, hsources, fun f hf => ?_, fun ⟨hl, hp⟩ => ?_⟩
  · have hevents : (nextWord (deliver (.done d) c (endTenancy s))).events = u.events := by
      rw [(nextWord_frame _).2.2.2.2.2.2.1, hdeliver]
      rfl
    rw [hd, answerWord_eq (s := endTenancy s) hc]
    exact (takeWords_keeps _ _).flags f (by rw [hevents]; exact hf)
  · rw [hd, answerWord_last (.done d) (s := endTenancy s) hc hl hp, hdeliver]
    rfl

/-- A journaled write answered DONE starts the QUIET timer again (R69, R85). -/
theorem reportJournalWrite_counted {c : HostAccess} (hk : c.kind = .write) (s : State) :
    let u : State := s.counted .writes c
    reportJournalWrite c (s.counted c.countTarget c) =
      if c.grant.map (·.mode) = some .journal ∧ s.engine.state = .armed ∧ s.settings.timerMode = .quiet then
        { u with sources := { u.sources with timer := some s.settings.timerPeriod } }
      else u := by
  simp [reportJournalWrite, HostAccess.countTarget, hk, State.withTimer, State.withSources]

/-- Settles O44: the answer of a read, of a write, and of a memory error. -/
theorem forwardedWordIsAnswered : Obligations.ForwardedWordIsAnswered := by
  intro c d s hc _ last answered done
  have hanswered : ∀ a : WordResult, answered (finishWord a s) (a.answer c.kind) :=
    fun a => ⟨finishWord_answers a hc, finishWord_leaves a hc⟩
  refine ⟨fun hr hk => ?_, fun hw hk => ?_, fun hw => ?_⟩
  · have hu : reportJournalWrite c (s.counted c.countTarget c) = s.counted .reads c := by
      simp [reportJournalWrite, HostAccess.countTarget, hk]
    exact ⟨_, exec_memoryAnswer_lastRead hr d, hanswered (.done (some d)), finishWord_done (some d) hc hu⟩
  · exact ⟨_, exec_memoryAnswer_lastWrite hw d, hanswered (.done none),
      finishWord_done none hc (reportJournalWrite_counted hk s)⟩
  · obtain ⟨-, -, hflag, hfaults⟩ := answerWord_flagged_fault (x := .memoryFault) rfl (s := endTenancy s) hc
    obtain ⟨-, hregions, hsources⟩ := answerWord_fault_quiet .memoryFault (endTenancy s)
    have alike : AlikeForOffers s (endTenancy s) := ⟨rfl, rfl, rfl, rfl⟩
    refine ⟨_, exec_memoryAnswer_hostError hw d, ?_, hflag,
      alike.faultAnswered c c .memoryFault rfl rfl rfl rfl rfl rfl rfl rfl rfl hfaults, hregions, hsources⟩
    rw [← fault_answer]
    exact hanswered (.fault .memoryFault)

/-! ## The UNDO entry (R14, R59) -/

/-- The in-chip advance of an UNDO append: the word joins the touched set while the engine is still ARMED and not LAPSED, the
oldest leaving a full set (R14, R60, R96). -/
theorem undoAdvance_eq (c : HostAccess) (s : State) : undoAdvance c s = s.withJournal { s.engine.journal with
    tail := (s.engine.journal.tail + 1) % s.engine.slots
    fill := s.engine.journal.fill + 1
    nextSequence := s.engine.journal.nextSequence + 1
    newestSequence := s.engine.journal.nextSequence
    touched :=
      if s.engine.state = .armed ∧ s.engine.journal.lapsed = false ∧ c.wordAddress ∉ s.engine.journal.touched then
        (if s.engine.journal.touched.length < 64 then s.engine.journal.touched else s.engine.journal.touched.tail) ++
          [c.wordAddress]
      else s.engine.journal.touched } := by
  have hinsert : ∀ (a : Nat) (l : List Nat),
      touchedInsert a l = if a ∉ l then (if l.length < 64 then l else l.tail) ++ [a] else l := by
    intro a l
    unfold touchedInsert
    by_cases ha : a ∈ l
    · simp [ha]
    · by_cases hl : l.length < 64 <;> simp [ha, hl]
  unfold undoAdvance Journal.appendUndo
  by_cases hj : s.engine.state = .armed ∧ s.engine.journal.lapsed = false
  · have hmem : (s.engine.state = .armed ∧ s.engine.journal.lapsed = false ∧ c.wordAddress ∉ s.engine.journal.touched) ↔
        c.wordAddress ∉ s.engine.journal.touched := ⟨fun h => h.2.2, fun h => ⟨hj.1, hj.2, h⟩⟩
    rw [if_pos (by simp [hj]), hinsert]
    simp only [hmem]
    rfl
  · rw [if_neg (by simpa using hj), if_neg fun ⟨hs, hl, _⟩ => hj ⟨hs, hl⟩]
    rfl

/-- Settles O45: the slot write at tail, and the append it completes. -/
theorem undoAppendAdvancesTheJournal : Obligations.UndoAppendAdvancesTheJournal := by
  intro c d s hc j a
  refine ⟨fun hr => ?_, fun hw => ?_⟩
  · rw [exec_memoryAnswer_lastRead hr]
    exact congrArg Host.Outcome.next (withWord_of_current hc (writeUndo d))
  · intro advanced
    have hadvance : undoAdvance c s = advanced := undoAdvance_eq c s
    have hfill : (advanced.counted .undo c).engine.journal.fill = j.fill + 1 := by simp [advanced]
    have hport : ((advanced.counted .undo c).watched j.fill).port = s.port := by rw [watched_port]; simp [advanced]
    have hdone : completeWork .hostUndo [] s = undoAppended c s := withWord_of_current hc undoAppended
    rw [exec_memoryAnswer_lastWrite hw, hdone, undoAppended, hadvance, countFor_eq, checkWatermark_eq hfill]
    simp only [forwardWrite, issueWrites, State.withTenancy, State.withPort, hport]
    rfl

end Sys2Proof.Machine
end

section
/-!
PROOFS. The passing of time: what is due happens first, and then the holds, the candidate, the millisecond and the byte on the
link go on (R66, R73, R81, R83, R167, R170).
-/
namespace Sys2Proof.Machine

/-! ## What is due (R66, R81, R83) -/

/-- The mark timer has run out in a mode that acts on it (R83). -/
def State.timerDue (s : State) : Prop := s.sources.timer = some 0 ∧ s.settings.timerMode ≠ .off

theorem expireTimer_not_due {s : State} (h : ¬ s.timerDue) : expireTimer s = s := by
  unfold expireTimer
  split
  · rename_i h0
    split
    · rename_i hm
      exact absurd ⟨h0, by simp [hm]⟩ h
    · rename_i hm
      exact absurd ⟨h0, by simp [hm]⟩ h
    · rfl
  · rfl

/-- A timer that expires starts again with its period or stops (R83 to R85). -/
theorem expireTimer_sources {s : State} (h : s.timerDue) : ∃ x, (x = none ∨ x = some s.settings.timerPeriod) ∧
    (expireTimer s).sources = { s.sources with timer := x } := by
  obtain ⟨h0, hm⟩ := h
  rw [expireTimer, if_pos h0]
  split
  · exact ⟨some s.settings.timerPeriod, .inr rfl, by simp⟩
  · exact ⟨none, .inl rfl, by simp⟩
  · rename_i hoff
    exact absurd hoff hm

theorem filteredChange_sources (s : State) :
    (filteredChange s).sources = { s.sources with level := !s.sources.level, candidate := none } := by
  unfold filteredChange
  split <;> simp

/-- The words treated up to one that stands start no timer of their own but in recovery, from 0 (R49, R50, R53). -/
theorem takeWords_hold (n : Nat) (s : State) (h : ∀ c, s.host.current = some c → c.hold = none) :
    ∀ d, (takeWords n s).host.current = some d → d.hold = none ∨ d.hold = some 0 := by
  induction n generalizing s with
  | zero => exact fun d hd => .inl (h d hd)
  | succ n ih =>
    simp only [takeWords]
    split
    · split
      · exact ih _ fun c hc => by
          rw [← Option.some.inj hc]
          rfl
      · exact fun d hd => .inl (h d hd)
    · rename_i c hc
      split
      · exact ih _ fun e he => nomatch he
      · split
        · rename_i a _
          obtain ⟨k, hk⟩ := nextWord_deliver_host a c s hc
          exact ih _ fun e he => by
            rw [hk] at he
            rw [← Option.some.inj he]
        · intro d hd
          unfold presentWord at hd
          split at hd <;> rw [← Option.some.inj hd]
          · exact .inr rfl
          · exact .inl (h c hc)

/-- Once a hold has expired none is due (R66). -/
theorem answerWord_not_holdDue (a : WordResult) {c : HostAccess} {s : State} (hc : s.host.current = some c) :
    ¬ (answerWord a s).holdDue := by
  rintro ⟨d, n, hd, -, hn, hz, hl⟩
  obtain ⟨k, hk⟩ := nextWord_deliver_host a c s hc
  have hhold := takeWords_hold (nextWord (deliver a c s)).host.wordsLeft _ (fun e he => by
    rw [hk] at he
    rw [← Option.some.inj he]) d (by rw [answerWord_eq hc] at hd; exact hd)
  rcases hhold with h | h <;> rw [hn] at h
  · exact nomatch h
  · obtain rfl : n = 0 := Option.some.inj h
    exact hz (Nat.le_zero.1 hl)

theorem holdDue_congr {s t : State} (hh : t.host = s.host) (hs : t.settings = s.settings) : t.holdDue ↔ s.holdDue := by
  unfold State.holdDue
  rw [hh, hs]

/-- What is due: nothing, when no hold, no candidate and no timer is. -/
theorem takeDue_none {s : State} (hh : ¬ s.holdDue) (hc : ¬ s.changeDue) (ht : ¬ s.timerDue) : takeDue s = s := by
  rw [takeDue, expireIfReached_not_due hh, changeIfDue_not_due hc, expireTimer_not_due ht]

/-- A hold that is due expires before anything else that is due. -/
theorem takeDue_hold {s : State} (h : s.holdDue) : takeDue (expireIfReached s) = takeDue s := by
  obtain ⟨c, n, hc, hrest⟩ := id h
  rw [takeDue, takeDue, expireIfReached_due h, expireIfReached_not_due (answerWord_not_holdDue _ hc)]

/-- Then the filtered change. -/
theorem takeDue_change {s : State} (hh : ¬ s.holdDue) (h : s.changeDue) : takeDue (changeIfDue s) = takeDue s := by
  have hhold : ¬ (filteredChange s).holdDue := by
    rwa [holdDue_congr (s := s) (by simp) (by simp)]
  have hchange : ¬ (filteredChange s).changeDue := by
    rintro ⟨n, hn, -⟩
    rw [filteredChange_sources] at hn
    exact nomatch hn
  rw [takeDue, takeDue, expireIfReached_not_due hh, changeIfDue_due h, expireIfReached_not_due hhold,
    changeIfDue_not_due hchange]

/-- Then the timer. -/
theorem takeDue_timer {s : State} (hh : ¬ s.holdDue) (hc : ¬ s.changeDue) (h : s.timerDue) (hp : s.settings.timerPeriod ≠ 0) :
    takeDue (expireTimer s) = takeDue s := by
  obtain ⟨x, hx, hsources⟩ := expireTimer_sources h
  have hhold : ¬ (expireTimer s).holdDue := by
    rwa [holdDue_congr (s := s) (by simp) (by simp)]
  have hchange : ¬ (expireTimer s).changeDue := by
    rintro ⟨n, hn, hl⟩
    rw [hsources] at hn
    exact hc ⟨n, hn, by simpa using hl⟩
  have htimer : ¬ (expireTimer s).timerDue := by
    rintro ⟨h0, -⟩
    rw [hsources] at h0
    rcases hx with rfl | rfl
    · exact nomatch h0
    · exact hp (Option.some.inj h0)
  rw [takeDue_none hhold hchange htimer, takeDue, expireIfReached_not_due hh, changeIfDue_not_due hc]

/-! ## Time on (R66, R73, R81, R83) -/

theorem exec_timestampTick {s : State} (hr : s.control.resetHeld = false) :
    exec .timestampTick s = .next (passMillisecond (passMicros (1000 - s.sources.micros) (takeDue s))) := by
  have h : ¬ s.control.resetHeld = true := by simp [hr]
  exact congrArg Host.Outcome.next (if_neg h)

theorem idle_running {s : State} (hr : s.control.resetHeld = false) :
    idle s = countMicro (tickLink (passMicros 1 (takeDue s))) := if_neg (by simp [hr])

theorem step_empty {s : State} (hp : s.pending = []) : step s = .next (idle s) := by
  unfold step
  rw [hp]

/-- Two states in which the same is left once what is due has happened, pass time alike. -/
theorem time_congr {s t : State} (hr : s.control.resetHeld = false) (hd : takeDue t = takeDue s)
    (hm : t.sources.micros = s.sources.micros) (hc : t.control = s.control) (hp : t.pending = s.pending) :
    exec .timestampTick s = exec .timestampTick t ∧ (s.pending = [] → step s = step t) := by
  have hrt : t.control.resetHeld = false := by rw [hc, hr]
  refine ⟨by rw [exec_timestampTick hr, exec_timestampTick hrt, hd, hm], fun h => ?_⟩
  rw [step_empty h, step_empty (by rw [hp, h]), idle_running hr, idle_running hrt, hd]

/-- A time below its limit runs up to it (R66, R81). -/
theorem timeAfter_below {limit n t : Nat} (h : t < limit) : timeAfter limit n t = min limit (t + n) :=
  if_neg (Nat.not_le.2 h)

/-- The candidate's time, when it is not due (R81). -/
theorem candidate_passes {s : State} (h : ¬ s.changeDue) (n : Nat) :
    s.sources.candidate.map (timeAfter s.settings.lineFilter.micros n) =
      s.sources.candidate.map fun t => min s.settings.lineFilter.micros (t + n) := by
  cases hn : s.sources.candidate with
  | none => rfl
  | some t => exact congrArg some (timeAfter_below (Nat.lt_of_not_le fun hl => h ⟨t, hn, hl⟩))

/-- The hold of a word that runs, when it is not due (R66). -/
theorem hold_passes {c : HostAccess} {s : State} (hc : s.host.current = some c) (hw : c.waits) (h : ¬ s.holdDue) (n : Nat) :
    c.hold.map (holdAfter s.settings.holdLimit n) = c.hold.map fun t =>
      if s.settings.holdLimit = 0 then t + n else min s.settings.holdLimit (t + n) := by
  cases hn : c.hold with
  | none => rfl
  | some t =>
    refine congrArg some ?_
    unfold holdAfter
    split
    · rfl
    · rename_i hz
      exact timeAfter_below (Nat.lt_of_not_le fun hl => h ⟨c, t, hc, hw, hn, hz, hl⟩)

/-- The hold of a word held or waiting runs (R66). -/
theorem tickHold_waits {c : HostAccess} {s : State} (hc : s.host.current = some c) (hw : c.waits) (h : ¬ s.holdDue) (n : Nat) :
    tickHold n s = s.withCurrent (some { c with hold := c.hold.map fun t =>
      if s.settings.holdLimit = 0 then t + n else min s.settings.holdLimit (t + n) }) := by
  rw [← hold_passes hc hw h]
  simp only [tickHold, hc]
  exact if_pos ((waits_iff c).1 hw)

/-- That of any other word stands still (R66). -/
theorem tickHold_stands {c : HostAccess} {s : State} (hc : s.host.current = some c) (hw : ¬ c.waits) (n : Nat) :
    tickHold n s = s := by
  simp only [tickHold, hc]
  exact if_neg fun h => hw ((waits_iff c).2 h)

/-- The timer that is due expires by its mode's happening (R83 to R85). -/
theorem exec_timerExpiry {s : State} (h : s.timerDue) :
    exec (if s.settings.timerMode = .periodic then .periodicExpiry else .quietExpiry) s = .next (expireTimer s) := by
  cases hm : s.settings.timerMode with
  | periodic => exact congrArg Host.Outcome.next (if_pos hm)
  | quiet => exact congrArg Host.Outcome.next (if_pos hm)
  | off => exact absurd hm h.2

/-- The count of microseconds does not look at the link. -/
theorem countMicro_tickLink (s : State) : countMicro (tickLink s) = tickLink (countMicro s) := by
  by_cases h : 1000 ≤ s.sources.micros + 1
  · rw [countMicro, countMicro, if_pos h, if_pos (by exact h)]
    rfl
  · rw [countMicro, countMicro, if_neg h, if_neg (by exact h)]
    rfl

/-! ## The byte on the link (R167, R170) -/

/-- In RESPONSE with this many bytes to go the part shifts out the byte that comes then: status, length, data (R170). -/
theorem misoByte_response {l : Link} {r : Response} {k : Nat} (hr : l.response = some r)
    (hp : l.phase = .response (r.data.length + 2 - k)) (hk : k < r.data.length + 2) : l.misoByte = r.bytes.getD k 0 := by
  have hleft : r.bytes.length - (r.data.length + 2 - k) = k := by
    simp only [Response.bytes, List.length_cons]
    omega
  simp only [Link.misoByte, hr, hp, hleft]

/-- Outside RESPONSE it shifts out zero (R167). -/
theorem misoByte_outside {l : Link} (h : ∀ k, l.phase ≠ .response k) : l.misoByte = 0 := by
  unfold Link.misoByte
  split
  · rename_i left _ hl _
    exact absurd hl (h left)
  · rfl

/-- Settles O7: time after nothing due, what is due first, and the bytes on the link. -/
theorem timePasses : Obligations.TimePasses := by
  intro s hr limit filter holdDue changeDue timerDue on millisecond clocked
  refine ⟨fun hh hc ht => ?_, fun t h ht => ?_, fun t hh h ht => ?_, fun t hh hc h hp ht => ?_, fun r k hresp hk hphase => ?_,
    fun h => ?_⟩
  · have hon : ∀ n, passMicros n s = on n := by
      intro n
      have hcand : s.sources.candidate.map (timeAfter s.settings.lineFilter.micros n) = (on n).sources.candidate := by
        rw [candidate_passes hc]
        simp only [on]
        cases s.sources.candidate <;> rfl
      have hhost : tickHold n s = s.withHost (on n).host := by
        cases hcur : s.host.current with
        | none => simp [tickHold, on, hcur, State.withHost]
        | some c =>
          simp only [on, hcur]
          by_cases hw : c.waits
          · rw [tickHold_waits hcur hw hh, if_pos (by exact hw)]
            cases c.hold <;> rfl
          · rw [tickHold_stands hcur hw, if_neg (by exact hw)]
            rfl
      rw [passMicros, hhost, tickCandidate]
      exact congrArg (fun x => State.withSources (s.withHost (on n).host) { s.sources with candidate := x }) hcand
    have hclock : ∀ t, tickLink t = clocked t := by
      intro t
      rcases hlink : t.link with ⟨phase, ignoring, response⟩
      simp only [clocked, tickLink, Link.clock, hlink]
      cases response <;> cases phase <;> rfl
    have hmilli : ∀ t, passMillisecond t = millisecond t := by
      intro t
      simp only [passMillisecond, millisecond]
      cases t.sources.timer <;> rfl
    refine ⟨?_, fun hpend => ?_⟩
    · rw [exec_timestampTick hr, takeDue_none hh hc ht, hon, hmilli]
    · rw [step_empty hpend, idle_running hr, takeDue_none hh hc ht, countMicro_tickLink, hclock, hon]
      rw [countMicro, hmilli]
      rfl
  · obtain rfl : expireIfReached s = t := by simpa [exec_holdExpiry] using ht
    refine time_congr hr (takeDue_hold h) ?_ (by simp) (by simp)
    rw [expireIfReached_due h, (answerWord_fault_quiet .stallExpired s).2.2]
  · obtain rfl : changeIfDue s = t := Host.Outcome.next.inj ht
    refine time_congr hr (takeDue_change hh h) ?_ (by simp) (by simp)
    rw [changeIfDue_due h, filteredChange_sources]
  · obtain rfl : expireTimer s = t := Host.Outcome.next.inj ((exec_timerExpiry h).symm.trans ht)
    obtain ⟨x, -, hsources⟩ := expireTimer_sources h
    exact time_congr hr (takeDue_timer hh hc h hp) (by rw [hsources]) (by simp) (by simp)
  · exact misoByte_response hresp hphase hk
  · exact misoByte_outside h

end Sys2Proof.Machine
end

section
/-!
SUPPORT. Mark requests, the two ends of an exclusive operation and the room for a MARK entry, in the terms of the statements
(R16, R74, R75, R91).
-/
namespace Sys2Proof.Machine

/-! ## Flags -/

/-- Setting flags again changes nothing (R157). -/
theorem flagged_flagged (x : FlagSet) (s : State) : (s.flagged x).flagged x = s.flagged x := by
  simp [State.flagged, BitVec.or_assoc]

/-! ## Mark requests (R74, R75) -/

theorem joinPending_eq (x : Source) (s : State) : joinPending x s = { s with engine := { s.engine with
    markPending := s.engine.markPending ||| x.only
    jobs := if s.engine.markPending = 0 ∧ s.engine.exclusive = none then s.engine.jobs ++ [Job.mark]
      else s.engine.jobs } } := rfl

/-- With no exclusive operation running a job is queued when the set was empty (R75). -/
theorem joinPending_of_free {s : State} (h : s.engine.exclusive = none) (x : Source) : joinPending x s = { s with
    engine := { s.engine with
      markPending := s.engine.markPending ||| x.only
      jobs := if s.engine.markPending = 0 then s.engine.jobs ++ [Job.mark] else s.engine.jobs } } := by
  simp [joinPending_eq, h]

theorem requestMark_armed {s : State} (h : s.engine.state = .armed) (x : Source) : requestMark x s = joinPending x s := by
  simp only [requestMark, h]

theorem requestMark_rolling {s : State} (h : s.engine.state = .rolling) (x : Source) :
    requestMark x s = s.flagged (BitVec.twoPow 25 1) := by
  simp only [requestMark, h]
  rfl

theorem requestMark_elsewhere {s : State} (ha : s.engine.state ≠ .armed) (hr : s.engine.state ≠ .rolling) (x : Source) :
    requestMark x s = s := by
  unfold requestMark
  split
  · exact absurd ‹_› ha
  · exact absurd ‹_› hr
  · rfl

/-! ## The end of an exclusive operation (R91) -/

/-- In ARMED the pending marks give a MARK job (R91). -/
theorem endExclusive_of_armed {s : State} (h : s.engine.state = .armed) : endExclusive s = { s with
    engine := { s.engine with
      exclusive := none
      jobs := if s.engine.markPending = 0 then s.engine.jobs else s.engine.jobs ++ [Job.mark] } } := by
  by_cases hp : s.engine.markPending = 0
  · rw [endExclusive_of_empty hp, if_pos hp]
    rfl
  · rw [endExclusive, if_neg hp, if_pos h, if_neg hp]
    rfl

/-- In any other state they are missed (R91). -/
theorem endExclusive_of_not_armed {s : State} (h : s.engine.state ≠ .armed) : endExclusive s = {
    (if s.engine.markPending = 0 then s else s.flagged (BitVec.twoPow 25 1)) with
    engine := { s.engine with exclusive := none, markPending := 0 } } := by
  by_cases hp : s.engine.markPending = 0
  · simp [endExclusive_of_empty hp, State.withExclusive, State.withEngine, hp]
  · rw [endExclusive, if_neg hp, if_neg h, if_neg hp]
    rfl

/-! ## Room for a MARK entry (R15, R16) -/

/-- Room is made for a MARK entry in a full journal with a second mark to become the head (R16, R17). -/
theorem needsRoom_iff (e : Engine) : e.needsRoom = true ↔
    (e.slots - e.journal.fill = 0 ∨ 16 ≤ e.journal.marks.length) ∧ 2 ≤ e.journal.marks.length := by
  simp only [Engine.needsRoom, Bool.and_eq_true, Bool.or_eq_true, decide_eq_true_eq]
  rfl

end Sys2Proof.Machine
end

section
/-!
PROOFS. The commands that begin an exclusive operation or queue a job, and a mark request by engine state (R19, R21, R74, R75,
R80, R87, R89, R121).
-/
namespace Sys2Proof.Machine

/-! ## What a judgement takes -/

/-- An engine command being taken leaves what the engine's judgement leaves, with its answer formed (R168, R170). -/
theorem exec_of_engineJudgement {s t : State} (h : s.engineListens) {c : Instr} {code : Byte} {args : List Byte}
    (hf : commandFrame c = some (code, args)) {judge : State → Response × State}
    (he : exec c s = serve c (engineCommand judge) s) {x : Status} (hj : judge s = (answerOnly x, t))
    (hl : t.link = s.link) : exec c s = .next (t.answered x []) :=
  exec_of_judgement h.1 hf he ((engineCommand_of_listens h judge).trans hj) hl

/-- ARM while DISARMED begins an arming (R87). -/
theorem judgeArm_taken {s : State} (hs : s.engine.state = .disarmed) (ho : s.engineOccupied = false) {action : Byte}
    {a : RestartAction} (ha : decodeRestartAction action.toNat = some a) :
    judgeArm action s = (answerOnly .accepted, s.withExclusive (some (.arm a))) := by
  simp [judgeArm, hs, ha, ho]

/-- DISARM while ARMED begins a disarming (R89). -/
theorem judgeDisarm_taken {s : State} (hs : s.engine.state = .armed) (ho : s.engineOccupied = false) :
    judgeDisarm s = (answerOnly .accepted, s.withExclusive (some .disarm)) := by
  simp [judgeDisarm, hs, ho]

/-- DISCARD of an empty journal is done at once (R21). -/
theorem judgeDiscard_empty {s : State} (hs : s.engine.state = .disarmed) (ho : s.engineOccupied = false)
    (hf : s.engine.journal.fill = 0) : judgeDiscard s = (answerOnly .ok, setFlag .releaseDone s) := by
  simp [judgeDiscard, hs, ho, hf]

/-- DISCARD of a retained journal begins its tenancy (R21). -/
theorem judgeDiscard_taken {s : State} (hs : s.engine.state = .disarmed) (ho : s.engineOccupied = false)
    (hf : s.engine.journal.fill ≠ 0) : judgeDiscard s = (answerOnly .accepted, s.withExclusive (some .discard)) := by
  simp [judgeDiscard, hs, ho, hf]

/-- MARK while ARMED joins COMMAND to the pending set (R80). -/
theorem judgeMark_taken {s : State} (hs : s.engine.state = .armed) (hx : s.engine.exclusive = none) :
    judgeMark s = (answerOnly .accepted, joinPending .command s) := by
  simp [judgeMark, hs, hx]

/-- RELEASE queues its job (R19). -/
theorem judgeRelease_taken {s : State} (hs : s.engine.state = .armed ∨ s.engine.state = .disarmed)
    (hb : s.engine.releaseBusy = false) {n : Byte} (h1 : 1 ≤ n.toNat) (h16 : n.toNat ≤ 16) :
    judgeRelease n s = (answerOnly .accepted, s.withJobs (s.engine.jobs ++ [.release n.toNat])) := by
  rw [judgeRelease, if_neg (by omega)]
  rcases hs with hs | hs <;> simp [hs, hb]

/-- PEEK queues its job and makes the peek buffer PENDING (R121). -/
theorem judgePeek_taken {s : State}
    (hs : s.engine.state = .armed ∨ s.engine.state = .disarmed ∨ s.engine.state = .broken) (hb : s.peekBusy = false)
    {n : BitVec 16} (hn : n.toNat < s.engine.slots) :
    judgePeek n s = (answerOnly .accepted, (s.withPeek .pending).withJobs (s.engine.jobs ++ [.peek n.toNat])) := by
  have ht : takePeek n s = (answerOnly .accepted, (s.withPeek .pending).withJobs (s.engine.jobs ++ [.peek n.toNat])) := by
    simp [takePeek, hb, Nat.not_le.2 hn]
  rw [← ht]
  rcases hs with hs | hs | hs <;> simp [judgePeek, hs]

/-! ## The obligations -/

/-- Settles O17: nothing bars an exclusive operation of a free engine, whatever the host does. -/
theorem exclusiveCommandsAreTaken : Obligations.ExclusiveCommandsAreTaken := by
  intro s h hfree
  have ho := engineOccupied_of_free hfree
  refine ⟨fun hs => ⟨?_, ?_, ?_⟩, fun hs => ?_⟩
  · exact exec_of_engineJudgement h rfl rfl (judgeArm_taken hs ho (action := 0) rfl) rfl
  · exact exec_of_engineJudgement h rfl rfl (judgeArm_taken hs ho (action := 1) rfl) rfl
  · by_cases hf : s.engine.journal.fill = 0
    · rw [if_pos hf]
      exact exec_of_engineJudgement h rfl rfl (judgeDiscard_empty hs ho hf) rfl
    · rw [if_neg hf]
      exact exec_of_engineJudgement h rfl rfl (judgeDiscard_taken hs ho hf) rfl
  · exact exec_of_engineJudgement h rfl rfl (judgeDisarm_taken hs ho) rfl

/-- Settles O18: a job is queued when no exclusive operation and no job of its kind bars it. -/
theorem jobCommandsAreQueued : Obligations.JobCommandsAreQueued := by
  intro s h hx
  refine ⟨fun hs => ?_, fun n h1 h16 hs hq => ?_, fun n hn hs hq hw => ?_⟩
  · have hj := judgeMark_taken hs hx
    rw [joinPending_of_free hx] at hj
    exact exec_of_engineJudgement h rfl rfl hj rfl
  · have hb : s.engine.releaseBusy = false := by
      rw [← Bool.not_eq_true, releaseBusy_iff]
      simp [hx, hq]
    exact exec_of_engineJudgement h rfl rfl (judgeRelease_taken hs hb h1 h16) rfl
  · have hb : s.peekBusy = false := by
      rw [← Bool.not_eq_true, peekBusy_iff]
      simp [hx, hq, hw]
    exact exec_of_engineJudgement h rfl rfl (judgePeek_taken hs hb hn) rfl

/-- Settles O27: a request by the three answers of R74. -/
theorem markRequestByEngineState : Obligations.MarkRequestByEngineState := fun x _ =>
  ⟨fun ha => requestMark_armed ha x, fun hr => requestMark_rolling hr x, fun ha hr => requestMark_elsewhere ha hr x⟩

end Sys2Proof.Machine
end

section
/-!
PROOFS. The mark timer's expiries and the MARK line's changes (R81 to R85).
-/
namespace Sys2Proof.Machine

/-! ## The mark timer (R83 to R85) -/

/-- A PERIODIC expiry asks for a mark and starts the timer again (R84). -/
theorem expireTimer_periodic {s : State} (ht : s.sources.timer = some 0) (hm : s.settings.timerMode = .periodic) :
    expireTimer s = { requestMark .timer s with
      sources := { s.sources with timer := some s.settings.timerPeriod } } := by
  simp only [expireTimer, ht, hm, if_true, State.withTimer, State.withSources, requestMark_frame]

/-- A QUIET expiry asks for a mark and stops the timer (R85). -/
theorem expireTimer_quiet {s : State} (ht : s.sources.timer = some 0) (hm : s.settings.timerMode = .quiet) :
    expireTimer s = { requestMark .timer s with sources := { s.sources with timer := none } } := by
  simp only [expireTimer, ht, hm, if_true, State.withTimer, State.withSources, requestMark_frame]

theorem exec_periodicExpiry (s : State) :
    exec .periodicExpiry s = .next (if s.settings.timerMode = .periodic then expireTimer s else s) := rfl

theorem exec_quietExpiry (s : State) :
    exec .quietExpiry s = .next (if s.settings.timerMode = .quiet then expireTimer s else s) := rfl

/-! ## The MARK line (R81, R82) -/

/-- The filtered level turned, with LINE_CHANGE and no candidate (R81). -/
def State.levelTurned (s : State) : State := { s.flagged (BitVec.twoPow 25 14) with
  sources := { s.sources with level := !s.sources.level, candidate := none } }

/-- A change the edge selection selects is offered and asks for a mark (R82). -/
theorem filteredChange_selected {s : State} (h : s.settings.lineEdge.selects (!s.sources.level) = true) :
    filteredChange s = requestMark .line (offer { cause := .lineEdge } s.levelTurned) := if_pos h

/-- Any other is not (R82). -/
theorem filteredChange_unselected {s : State} (h : ¬ s.settings.lineEdge.selects (!s.sources.level) = true) :
    filteredChange s = s.levelTurned := if_neg h

/-- Filter 0 is the one that asks for no time (R81). -/
theorem micros_eq_zero_iff (f : LineFilter) : f.micros = 0 ↔ f = .zero := by cases f <;> decide

/-- A turn of the pin ends a candidate standing (R81). -/
theorem pinTurns_ends {n : Nat} {s : State} (h : s.sources.candidate = some n) :
    pinTurns s = { s with sources := { s.sources with candidate := none } } := by
  rw [pinTurns, h]
  rfl

/-- With none standing it begins one, under a filter above 0 (R81). -/
theorem pinTurns_begins {s : State} (h : s.sources.candidate = none) (hf : s.settings.lineFilter ≠ .zero) :
    pinTurns s = { s with sources := { s.sources with candidate := some 0 } } := by
  simp only [pinTurns, h, micros_eq_zero_iff, if_neg hf]
  rfl

/-- Under filter 0 it is a filtered change at once (R81). -/
theorem pinTurns_changes {s : State} (h : s.sources.candidate = none) (hf : s.settings.lineFilter = .zero) :
    pinTurns s = filteredChange s := by
  simp only [pinTurns, h, micros_eq_zero_iff, if_pos hf]

theorem exec_filteredChange (s : State) : exec .filteredChange s = .next (changeIfDue s) := rfl

theorem exec_markPinChange {s : State} (h : s.control.resetHeld = false) :
    exec .markPinChange s = .next (pinTurns (changeIfDue s)) := congrArg Host.Outcome.next (if_neg (by simp [h]))

/-! ## The obligation -/

/-- Settles O36: the timer by its mode, and the line by whether a candidate stands and is due. -/
theorem timersAndLineMakeRequests : Obligations.TimersAndLineMakeRequests := by
  intro s
  refine ⟨fun ht hm => ?_, fun ht hm => ?_, fun ht => ?_, ?_⟩
  · rw [exec_periodicExpiry, if_pos hm, expireTimer_periodic ht hm]
  · rw [exec_quietExpiry, if_pos hm, expireTimer_quiet ht hm]
  · have hnot : expireTimer s = s := expireTimer_not_due fun hdue => ht hdue.1
    rw [exec_periodicExpiry, exec_quietExpiry, hnot, ite_self, ite_self]
    exact ⟨rfl, rfl⟩
  · intro filter turned selected changed
    have hselects : s.settings.lineEdge.selects (!s.sources.level) = true ↔ selected := by
      rw [selects_iff]
      simp [selected]
    have hchanged : changed (filteredChange s) :=
      ⟨fun h => filteredChange_selected (hselects.2 h), fun h => filteredChange_unselected fun k => h (hselects.1 k)⟩
    refine ⟨fun n hn => ⟨fun hlt => ?_, fun hle => ?_⟩, fun hnone => ?_⟩
    · have hstands : changeIfDue s = s := changeIfDue_not_due (by
        rintro ⟨m, hm, hle⟩
        obtain rfl : n = m := Option.some.inj (hn.symm.trans hm)
        exact Nat.not_le.2 hlt hle)
      exact ⟨by rw [exec_filteredChange, hstands], fun hr => by rw [exec_markPinChange hr, hstands, pinTurns_ends hn]⟩
    · have hdue : changeIfDue s = filteredChange s := changeIfDue_due ⟨n, hn, hle⟩
      refine ⟨filteredChange s, by rw [exec_filteredChange, hdue], hchanged, fun hr hf => ?_⟩
      have hended : (filteredChange s).sources.candidate = none := by rw [filteredChange_sources]
      rw [exec_markPinChange hr, hdue, pinTurns_begins hended (by simpa using hf)]
    · have hstands : changeIfDue s = s := changeIfDue_not_due (by
        rintro ⟨m, hm, -⟩
        exact nomatch hnone.symm.trans hm)
      refine ⟨by rw [exec_filteredChange, hstands], fun hr => ⟨fun hf => ?_, fun hf => ?_⟩⟩
      · rw [exec_markPinChange hr, hstands, pinTurns_begins hnone hf]
      · exact ⟨filteredChange s, by rw [exec_markPinChange hr, hstands, pinTurns_changes hnone hf], hchanged⟩

end Sys2Proof.Machine
end

section
/-!
PROOFS. What the tenancies of a mark, an arming and a disarming issue at their grants (R76, R77, R88, R90, R91, R177).
-/
namespace Sys2Proof.Machine

theorem exec_markTake (s : State) : exec .markTake s = execMarkTake s := rfl

theorem exec_arming (s : State) : exec .arming s = execArming s := rfl

theorem exec_disarming (s : State) : exec .disarming s = execDisarming s := rfl

/-- A full journal with a second mark has its oldest epoch released, and that mark becomes the head (R16, R17). -/
theorem needsRoom_of_full {e : Engine} (hf : e.slots - e.journal.fill = 0 ∨ 16 ≤ e.journal.marks.length)
    {m1 m2 : MarkElement} {rest : List MarkElement} (hm : e.journal.marks = m1 :: m2 :: rest) :
    e.needsRoom = true ∧ e.journal.marks[1]? = some m2 :=
  ⟨(needsRoom_iff e).2 ⟨hf, by simp [hm]⟩, by simp [hm]⟩

/-- A journal that is not full has room (R16). -/
theorem not_needsRoom {e : Engine} (hf : ¬ (e.slots - e.journal.fill = 0 ∨ 16 ≤ e.journal.marks.length)) :
    ¬ e.needsRoom = true := fun h => hf ((needsRoom_iff e).1 h).1

/-! ## The MARK job (R76, R77) -/

/-- A QUIET timer stops, and no other (R76). -/
theorem stopQuietTimer_eq (s : State) : stopQuietTimer s = { s with
    sources := { s.sources with timer := if s.settings.timerMode = .quiet then none else s.sources.timer } } := by
  unfold stopQuietTimer
  split <;> rfl

/-- What the grant of a MARK job leaves before its first access: the job out of the queue, the pending set emptied, a QUIET
timer stopped (R76). -/
def State.markGranted (s : State) : State := { s with
  port := ⟨none, .engine⟩
  engine := { s.engine with jobs := s.engine.jobs.tail, markPending := 0 }
  sources := { s.sources with timer := if s.settings.timerMode = .quiet then none else s.sources.timer } }

/-- A MARK tenancy at its grant (R76). -/
theorem exec_markTake_granted {s : State} (h : s.grantsEngine .markTake = true) :
    exec .markTake s = .next
      (if s.engine.state = .armed then markBegin s.engine.markPending s.settings.retainedLimit s.markGranted
      else setFlag .markMissed s.markGranted) := by
  have ht : stopQuietTimer ((dequeueJob s.engineGranted).withMarkPending 0) = s.markGranted := stopQuietTimer_eq _
  rw [exec_markTake, execMarkTake, onGrant_granted h, ← ht]
  rfl

/-- With room the MARK entry is written at tail (R77 step 2). -/
theorem markBegin_appends {x : SourceSet} {k : Nat} {s : State} (h : ¬ s.engine.needsRoom = true) :
    markBegin x k s = markAppendStep x k s := if_neg h

/-- Else the anchor that releases the oldest epoch comes first (R77 step 1). -/
theorem markBegin_releases {x : SourceSet} {k : Nat} {m : MarkElement} {s : State} (h : s.engine.needsRoom = true)
    (hm : s.engine.journal.marks[1]? = some m) : markBegin x k s = s.markOpens (.markRoom x k) m := by
  rw [markBegin, if_pos h, issueAnchor_opened hm]

/-- Settles O37: the mark is missed outside ARMED, and taken with or without room to be made. -/
theorem markTakeBeginsTheMark : Obligations.MarkTakeBeginsTheMark := by
  intro s hg j x k t full
  have he := exec_markTake_granted hg
  refine ⟨fun hs => ?_, fun hs hf => ?_, fun m1 m2 rest hs hf hm => ?_⟩
  · rw [he, if_neg hs]
    rfl
  · rw [he, if_pos hs, markBegin_appends (s := s.markGranted) (not_needsRoom hf)]
    rfl
  · obtain ⟨hroom, hsecond⟩ := needsRoom_of_full (e := s.markGranted.engine) hf hm
    rw [he, if_pos hs, markBegin_releases hroom hsecond]
    rfl

/-! ## The arming (R88) -/

/-- An arming tenancy at its grant (R88). -/
theorem exec_arming_granted {a : RestartAction} {s : State} (h : s.grantsEngine .arming = true)
    (hx : s.engine.exclusive = some (.arm a)) :
    exec .arming s = .next
      (if s.engine.state = .broken then endExclusive (setFlag .markMissed s.engineGranted)
      else armBegin a s.settings.retainedLimit s.engineGranted) := by
  have ha : s.engine.armingAction = a := by rw [Engine.armingAction, hx]
  rw [exec_arming, execArming, onGrant_granted h, ← ha]
  rfl

/-- With room the MARK entry is written at tail (R88 step 2). -/
theorem armBegin_appends {a : RestartAction} {k : Nat} {s : State} (h : ¬ s.engine.needsRoom = true) :
    armBegin a k s = armAppendStep a k s := if_neg h

/-- Else the anchor IDLE that releases the oldest epoch comes first (R88 step 1). -/
theorem armBegin_releases {a : RestartAction} {k : Nat} {m : MarkElement} {s : State} (h : s.engine.needsRoom = true)
    (hm : s.engine.journal.marks[1]? = some m) :
    armBegin a k s =
      issueAnchor (.armRoom a k) ⟨.idle, .keep, m.slot, m.sequence, 0, s.engine.journal.epoch⟩ s := by
  rw [armBegin, if_pos h, headFields_of_mark hm]

/-! ## The disarming (R90) -/

/-- A disarming tenancy at its grant (R90). -/
theorem exec_disarming_granted {s : State} (h : s.grantsEngine .disarming = true) :
    exec .disarming s = .next
      (if s.engine.state = .broken then endExclusive s.engineGranted
      else if s.engine.journal.lapsed = true ∨ s.engine.journal.fill = 0 then
        issueAnchor (.disarm true) (freshFields s) s.engineGranted
      else issueAnchor (.disarm false) (headFields .idle .keep 0 s) s.engineGranted) := by
  rw [exec_disarming, execDisarming, onGrant_granted h]
  rfl

/-- Settles O38: either tenancy ends at once in BROKEN, else issues its first access. -/
theorem armingAndDisarmingBegin : Obligations.ArmingAndDisarmingBegin := by
  intro s j k full
  have hnotArmed : s.engine.state = .broken → s.engine.state ≠ .armed := fun hb ha => nomatch hb.symm.trans ha
  refine ⟨fun a hg hx => ?_, fun hg hx => ?_⟩
  · have he := exec_arming_granted hg hx
    refine ⟨fun hb => ?_, fun hb hf => ?_, fun m1 m2 rest hb hf hm => ?_⟩
    · rw [he, if_pos hb, endExclusive_of_not_armed (s := setFlag .markMissed s.engineGranted) (hnotArmed hb)]
      have hflag : (setFlag .markMissed s.engineGranted).flagged (BitVec.twoPow 25 1) =
          setFlag .markMissed s.engineGranted := flagged_flagged _ _
      rw [hflag, ite_self]
      rfl
    · rw [he, if_neg hb, armBegin_appends (s := s.engineGranted) (not_needsRoom hf)]
      rfl
    · obtain ⟨hroom, hsecond⟩ := needsRoom_of_full (e := s.engineGranted.engine) hf hm
      rw [he, if_neg hb, armBegin_releases hroom hsecond]
      rfl
  · have he := exec_disarming_granted hg
    refine ⟨fun hb => ?_, fun hb hf => ?_, fun m rest hb hl hf hm => ?_⟩
    · rw [he, if_pos hb, endExclusive_of_not_armed (s := s.engineGranted) (hnotArmed hb)]
      by_cases hp : s.engine.markPending = 0
      · rw [if_pos hp, if_pos (by exact hp)]
        rfl
      · rw [if_neg hp, if_neg (by exact hp)]
        rfl
    · rw [he, if_neg hb, if_pos hf]
      rfl
    · have hkept : ¬ (j.lapsed = true ∨ j.fill = 0) := by simp [hl, hf]
      have hfirst : j.marks[0]? = some m := by simp [hm]
      rw [he, if_neg hb, if_neg hkept, headFields_of_mark hfirst]
      rfl

end Sys2Proof.Machine
end

section
/-!
PROOFS. Memory's answers to an arming's and a disarming's writes (R22, R88, R90, R91).
-/
namespace Sys2Proof.Machine

/-! ## The arming (R88) -/

/-- An anchor write after the watermark check of an append: the check touches nothing that the write names (R22, R126). -/
theorem issueAnchor_watched (w : Work) (f : AnchorFields) (n : Nat) (s : State) : issueAnchor w f (s.watched n) = {
    s.watched n with port := ⟨some (s.anchorWriting w (anchorCopy f s)), s.port.lastSide⟩ } := by
  unfold State.watched
  split <;> rfl

/-- The OPEN anchor that follows an arming's MARK entry, with the head that leaves the limit in the list (R88 steps 3 and 4). -/
theorem armAnchorStep_watched {a : RestartAction} {k n : Nat} {h : MarkElement} {s : State}
    (hm : s.engine.journal.marks[s.engine.journal.marks.length - k]? = some h) :
    armAnchorStep a k (s.watched n) = { s.watched n with
      port := ⟨some (s.anchorWriting (.armAnchor a (s.engine.journal.marks.length - k))
        (s.anchorNow .opened a h.slot h.sequence 0 s.engine.journal.epoch)), s.port.lastSide⟩ } := by
  have he := watched_engine n s
  rw [armAnchorStep, he, headFields_of_mark (by rw [he]; exact hm), he, issueAnchor_watched]
  rfl

/-- The release an arming's OPEN anchor recorded, when it recorded one (R88 step 4). -/
theorem armRelease_anchorWritten {n : Nat} {h : MarkElement} {s : State} (hm : s.engine.journal.marks[n]? = some h) :
    armRelease n (anchorWritten s) = if n = 0 then anchorWritten s else s.released n h := by
  rw [armRelease, releaseEpochs_anchorWritten hm]

/-- The mark timer's run state at the completion of an arming (R84, R85, R88). -/
def Settings.armedTimer (c : Settings) (running : Option Nat) : Option Nat :=
  match c.timerMode with
  | .periodic => some c.timerPeriod
  | .quiet => none
  | .off => running

theorem armTimer_eq (s : State) : armTimer s = { s with
    sources := { s.sources with timer := s.settings.armedTimer s.sources.timer } } := by
  unfold armTimer Settings.armedTimer
  cases s.settings.timerMode <;> rfl

/-- An arming's OPEN anchor written: the mark reported, the timer set, the exclusive operation ended in ARMED (R88, R91). -/
theorem armAnchorDone_eq (a : RestartAction) (n : Nat) (s : State) :
    let armed := setFlag .markTaken (install (becomeArmed a (armRelease n (anchorWritten (endTenancy s)))))
    armAnchorDone a n s = { offer { cause := .markTaken, sources := some 2 } armed with
      engine := { armed.engine with
        exclusive := none
        jobs := if armed.engine.markPending = 0 then armed.engine.jobs else armed.engine.jobs ++ [Job.mark] }
      sources := { armed.sources with timer := armed.settings.armedTimer armed.sources.timer } } := by
  intro armed
  have hdone : armAnchorDone a n s =
      endExclusive (armTimer (offer { cause := .markTaken, sources := some Source.arm.only } armed)) := rfl
  rw [hdone, armTimer_eq, endExclusive_of_armed rfl]
  rfl

/-- A failed MARK slot write of an arming: its two flags, and the end of the exclusive operation (R88). -/
theorem armAppendFailed_eq (s : State) : armAppendFailed s =
    endExclusive (((endTenancy s).flagged (BitVec.twoPow 25 21)).flagged (BitVec.twoPow 25 1)) := rfl

/-! ## The disarming (R90) -/

/-- The engine DISARMED by the anchor write of a disarming, its exclusive operation not yet ended (R90). -/
def State.disarmedBy (fresh : Bool) (s : State) : State := { s with
  engine := { s.engine with
    state := .disarmed
    anchor := some s.engine.anchorTarget
    journal := { (if fresh then { s.engine.journal with head := s.engine.journal.tail, fill := 0, marks := [] }
        else s.engine.journal) with
      lapsed := false
      touched := [] } }
  sources := { s.sources with timer := none }
  host := s.woken
  port := ⟨none, s.port.lastSide⟩ }

theorem disarmDone_eq (fresh : Bool) (s : State) : disarmDone fresh s = endExclusive (s.disarmedBy fresh) := by
  rw [disarmDone, wake_eq]
  cases fresh <;> rfl

/-- Settles O49: each write's answer, the exclusive operation ended by the engine state it leaves. -/
theorem armingAndDisarmingComplete : Obligations.ArmingAndDisarmingComplete := by
  intro d s j
  refine ⟨?_, ?_, fun fresh hw => ?_, fun a k stamp hw => ?_⟩
  · intro a k stamp h hw marks hm appended
    have happend : appendMark Source.arm.only stamp s = appended.watched j.fill := appendMark_eq _ stamp s
    rw [exec_memoryAnswer_lastWrite hw]
    simp only [completeWork, armAppendDone, happend]
    rw [armAnchorStep_watched (s := appended) hm]
    rfl
  · intro a n h hw hm armed
    have harmed : setFlag .markTaken (install (becomeArmed a (armRelease n (anchorWritten (endTenancy s))))) = armed := by
      rw [armRelease_anchorWritten (s := endTenancy s) hm]
      by_cases hn : n = 0
      · simp only [armed, if_pos hn]
        rfl
      · simp only [armed, if_neg hn]
        rfl
    have hkept : armed.settings = s.settings ∧ armed.sources = s.sources := by
      simp only [armed]
      split <;> exact ⟨rfl, rfl⟩
    obtain ⟨hsettings, hsources⟩ := hkept
    rw [exec_memoryAnswer_lastWrite hw]
    simp only [completeWork]
    rw [armAnchorDone_eq, harmed, hsettings, hsources]
    rfl
  · rw [exec_memoryAnswer_lastWrite hw]
    simp only [completeWork]
    have hs : (s.disarmedBy fresh).engine.state ≠ .armed := by simp [State.disarmedBy]
    rw [disarmDone_eq, endExclusive_of_not_armed hs]
    by_cases hp : s.engine.markPending = 0
    · rw [if_pos hp, if_pos (by exact hp)]
      rfl
    · rw [if_neg hp, if_neg (by exact hp)]
      rfl
  · rw [exec_memoryAnswer_error hw]
    simp only [failWork]
    rw [armAppendFailed_eq]
    by_cases ha : s.engine.state = .armed
    · have hjobs : (if s.engine.state = .armed ∧ s.engine.markPending ≠ 0 then s.engine.jobs ++ [Job.mark]
          else s.engine.jobs) = if s.engine.markPending = 0 then s.engine.jobs else s.engine.jobs ++ [Job.mark] := by
        simp [ha]
      rw [endExclusive_of_armed (by exact ha), hjobs, if_pos ha]
      rfl
    · rw [endExclusive_of_not_armed (by exact ha), flagged_flagged, ite_self, if_neg ha, if_neg fun h => ha h.1]
      rfl

end Sys2Proof.Machine
end

section
/-!
PROOFS. ROLLBACK taken, and what a rollback's tenancies issue at their grants (R12, R94 to R96, R98, R99, R101, R117).
-/
namespace Sys2Proof.Machine

/-! ## ROLLBACK taken (R94 to R96, R117) -/

/-- A depth that names a retained mark begins the rollback to it (R94, R95). -/
theorem takeRollback_taken {d : Byte} {m : MarkElement} {s : State} (h1 : 1 ≤ d.toNat)
    (hd : d.toNat ≤ s.engine.journal.marks.length)
    (hm : s.engine.journal.marks[s.engine.journal.marks.length - d.toNat]? = some m) (origin : RollbackOrigin) :
    takeRollback origin d s =
      (answerOnly .accepted, (beginRolling origin .freeze m s).withExclusive (some .rollback)) := by
  rw [takeRollback, if_neg (by omega), hm]

/-- Nothing bars ROLLBACK of a free engine while no host tenancy makes a release (R94, R117). -/
theorem judgeRollback_taken {s : State} (ho : s.engineOccupied = false) (hr : s.hostReleasing = false)
    (hs : s.engine.state = .armed ∧ s.engine.journal.lapsed = false ∨
      s.engine.state = .disarmed ∧ s.engine.journal.fill ≠ 0) (d : Byte) :
    judgeRollback d s = takeRollback (if s.engine.state = .armed then .armed else .disarmed) d s := by
  rcases hs with ⟨hs, hl⟩ | ⟨hs, hf⟩
  · simp [judgeRollback, hs, ho, hr, hl]
  · simp [judgeRollback, hs, ho, hr, hf]

/-- Settles O19: nothing bars the command, and the rollback begins at the mark its depth names. -/
theorem rollbackFixesItsTarget : Obligations.RollbackFixesItsTarget := by
  intro d m s h hfree hrel h1 hd hm hs
  have hr : s.hostReleasing = false := by
    rw [← Bool.not_eq_true, hostReleasing_iff]
    exact hrel
  have hj := (judgeRollback_taken (engineOccupied_of_free hfree) hr hs d).trans (takeRollback_taken h1 hd hm _)
  exact ⟨_, exec_of_engineJudgement h rfl rfl hj rfl, rfl, rfl, rfl, rfl, rfl⟩

/-! ## A rollback's anchors (R12, R98, R102, R104) -/

/-- A rollback's anchors carry the arming's restart action from an ARMED origin, and else KEEP (R98, R102). -/
theorem rollbackAction_eq (r : RollbackRecord) (s : State) :
    rollbackAction r s = if r.origin = .armed then s.engine.action else .keep := by
  unfold rollbackAction
  cases r.origin <;> rfl

section
variable {m : MarkElement} {rest : List MarkElement} {s : State} (hm : s.engine.journal.marks = m :: rest)
  (r : RollbackRecord)
include hm

/-- The ROLLING and BROKEN anchors name the first mark as head, and the target's sequence (R12, R98, R104). -/
theorem rollbackFields_of_marks (st : AnchorState) : rollbackFields st r s =
    ⟨st, if r.origin = .armed then s.engine.action else .keep, m.slot, m.sequence, r.targetSequence,
      s.engine.journal.epoch⟩ := by
  rw [rollbackFields, headFields_of_mark (m := m) (by simp [hm]), rollbackAction_eq]

/-- The settle anchor names the first mark as head, and the target's epoch (R12, R102). -/
theorem settleFields_of_marks : settleFields r s =
    ⟨if r.origin = .armed then .opened else .idle, if r.origin = .armed then s.engine.action else .keep, m.slot,
      m.sequence, 0, r.targetEpoch⟩ := by
  rw [settleFields, headFields_of_mark (m := m) (by simp [hm]), rollbackAction_eq]

/-- The settle anchor write issued (R102). -/
theorem settleAnchorStep_eq : settleAnchorStep r s = { s with
    port := ⟨some (s.anchorWriting .settleAnchor
      (s.anchorNow (if r.origin = .armed then .opened else .idle)
        (if r.origin = .armed then s.engine.action else .keep) m.slot m.sequence 0 r.targetEpoch)),
      s.port.lastSide⟩ } := by
  rw [settleAnchorStep, settleFields_of_marks hm, issueAnchor_eq]
  rfl

/-- A failed rollback's BROKEN anchor write issued (R104). -/
theorem rollbackFails_eq {r : RollbackRecord} (hr : s.engine.rollback = some r) : rollbackFails s = { s with
    port := ⟨some (s.anchorWriting .brokenAnchor
      (s.anchorNow .broken (if r.origin = .armed then s.engine.action else .keep) m.slot m.sequence r.targetSequence
        s.engine.journal.epoch)), s.port.lastSide⟩ } := by
  simp only [rollbackFails, hr]
  rw [rollbackFields_of_marks hm, issueAnchor_eq]
  rfl

end

/-! ## The grants (R98, R99, R101) -/

section
variable {r : RollbackRecord} {s : State} (hr : s.engine.rollback = some r)
include hr

/-- The ANCHOR tenancy at its grant (R98). -/
theorem exec_rollbackAnchor_granted (h : s.grantsEngine .rollbackAnchor = true) : exec .rollbackAnchor s = .next
    (issueAnchor .rollbackAnchor (rollbackFields .rolling r s) (fixRange r s.engineGranted)) := by
  have he : exec .rollbackAnchor s = execRollbackAnchor s := rfl
  rw [he, execRollbackAnchor, onGrant_granted h]
  simp only [State.engineGranted, hr]
  rfl

/-- A restore step at its grant (R99). -/
theorem exec_restoreStep_granted (h : s.grantsEngine .restoreStep = true) :
    exec .restoreStep s = .next (issueSlotRead .restoreRead r.position s.engineGranted) := by
  have he : exec .restoreStep s = execRestoreStep s := rfl
  rw [he, execRestoreStep, onGrant_granted h]
  simp only [State.engineGranted, hr]

/-- The SETTLE tenancy at its grant (R101). -/
theorem exec_settle_granted (h : s.grantsEngine .settle = true) : exec .settle s = .next
    (if (r.targetSlot + 1) % s.engine.slots = s.engine.journal.head then settleAnchorStep r s.engineGranted
    else issueSlotWrite .settleVoid ((r.targetSlot + 1) % s.engine.slots) (voidEntry r s) s.engineGranted) := by
  have he : exec .settle s = execSettle s := rfl
  rw [he, execSettle, onGrant_granted h]
  simp only [State.engineGranted, hr]
  rfl

end

/-- Settles O40: each tenancy's first access, the settlement's by whether the slot after the target is head. -/
theorem rollbackTenanciesBegin : Obligations.RollbackTenanciesBegin := by
  intro r s hr j n action
  refine ⟨fun m rest hg hm => ?_, fun hg => ?_, fun hg hne => ?_, fun m rest hg heq hm => ?_⟩
  · rw [exec_rollbackAnchor_granted hr hg, rollbackFields_of_marks hm]
    rfl
  · rw [exec_restoreStep_granted hr hg]
    rfl
  · rw [exec_settle_granted hr hg, if_neg hne]
    rfl
  · rw [exec_settle_granted hr hg, if_pos heq, settleAnchorStep_eq (s := s.engineGranted) hm]
    rfl

end Sys2Proof.Machine
end

section
/-!
PROOFS. Memory's answers to a rollback's ANCHOR write and restore steps, and its failures (R98 to R100, R104).
-/
namespace Sys2Proof.Machine

/-! ## The checks of a restore step (R99) -/

/-- The first mark list element of a slot. -/
def Journal.holdsMark (j : Journal) (slot : Nat) (m : MarkElement) : Prop :=
  ∃ before after, j.marks = before ++ m :: after ∧ m.slot = slot ∧ ∀ x ∈ before, x.slot ≠ slot

theorem markAt_eq_some_iff (j : Journal) (slot : Nat) (m : MarkElement) :
    j.markAt slot = some m ↔ j.holdsMark slot m := by
  simp only [Journal.markAt, List.find?_eq_some_iff_append, Journal.holdsMark, beq_iff_eq, Bool.not_eq_true',
    beq_eq_false_iff_ne]
  exact ⟨fun ⟨hm, before, after, hl, hb⟩ => ⟨before, after, hl, hm, hb⟩,
    fun ⟨before, after, hl, hm, hb⟩ => ⟨hm, before, after, hl, hb⟩⟩

theorem markAt_eq_none_iff (j : Journal) (slot : Nat) : j.markAt slot = none ↔ ∀ m ∈ j.marks, m.slot ≠ slot := by
  simp [Journal.markAt]

/-- The nearest mark at or before a slot, counted from head. -/
def Engine.nearestMark (e : Engine) (slot : Nat) (m : MarkElement) : Prop :=
  ∃ before after, e.journal.marks = before ++ m :: after ∧
    slotsFrom e.slots e.journal.head m.slot ≤ slotsFrom e.slots e.journal.head slot ∧
    ∀ x ∈ after, slotsFrom e.slots e.journal.head slot < slotsFrom e.slots e.journal.head x.slot

/-- The last element that satisfies a test, by where it stands in the list. -/
theorem getLast?_filter_eq_some_iff {α : Type} {p : α → Bool} {l : List α} {a : α} :
    (l.filter p).getLast? = some a ↔ ∃ before after, l = before ++ a :: after ∧ p a = true ∧ ∀ x ∈ after, p x = false := by
  rw [List.getLast?_filter, List.find?_eq_some_iff_append]
  constructor
  · rintro ⟨ha, xs, ys, hl, hx⟩
    refine ⟨ys.reverse, xs.reverse, ?_, ha, fun x h => by simpa using hx x (List.mem_reverse.1 h)⟩
    simpa using congrArg List.reverse hl
  · rintro ⟨before, after, rfl, ha, hx⟩
    exact ⟨ha, after.reverse, before.reverse, by simp, fun x h => by simpa using hx x (List.mem_reverse.1 h)⟩

/-- Check 4's epoch is that of the nearest mark at or before the slot (R99). -/
theorem epochAt_eq_some_iff (e : Engine) (slot : Nat) (w : Word) :
    e.epochAt slot = some w ↔ ∃ m, e.nearestMark slot m ∧ w = m.epoch := by
  simp only [Engine.epochAt, Option.map_eq_some_iff, getLast?_filter_eq_some_iff, decide_eq_true_eq,
    decide_eq_false_iff_not, Nat.not_le, Engine.nearestMark, eq_comm (a := w)]

/-- Check 3: no mark at an UNDO's slot, and a MARK's own element at its slot (R99). -/
theorem markCheck_iff (j : Journal) (slot : Nat) (e : Entry) : markCheck j slot e = true ↔
    e.kind = .undo ∧ (∀ m ∈ j.marks, m.slot ≠ slot) ∨
    e.kind = .mark ∧ (∃ m, j.holdsMark slot m ∧ e.sequence = m.sequence ∧ e.epoch = m.epoch) ∧ e.third = e.epoch := by
  simp only [← markAt_eq_none_iff, ← markAt_eq_some_iff, markCheck]
  cases hk : e.kind <;> cases hm : j.markAt slot <;> simp [and_assoc]

/-- Check 5: an UNDO's address is a word's, in the data space in force (R99). -/
theorem addressCheck_iff (s : State) (e : Entry) : addressCheck s e = true ↔
    (e.kind = .undo → e.third.toNat % 4 = 0 ∧ e.third.toNat < s.dataSpaceEnd) := by
  unfold addressCheck
  cases e.kind <;> simp [State.inDataSpace]

/-- A valid entry that passes the checks of a restore step (R99). -/
def State.restorable (r : RollbackRecord) (s : State) (e : Entry) : Prop :=
  e.sequence = r.expected ∧
  (e.kind = .undo ∧ (∀ m ∈ s.engine.journal.marks, m.slot ≠ r.position) ∧ e.third.toNat % 4 = 0 ∧
      e.third.toNat < s.dataSpaceEnd ∨
    e.kind = .mark ∧ (∃ m, s.engine.journal.holdsMark r.position m ∧ e.sequence = m.sequence ∧ e.epoch = m.epoch) ∧
      e.third = e.epoch) ∧
  (∃ m, s.engine.nearestMark r.position m ∧ e.epoch = m.epoch) ∧ (s.engine.steps = 1 → e.link = r.targetSequence)

theorem restoreChecks_iff (r : RollbackRecord) (s : State) (e : Entry) :
    restoreChecks r s e = true ↔ s.restorable r e := by
  simp only [restoreChecks, Bool.and_eq_true, Bool.or_eq_true, bne_iff_ne, beq_iff_eq, markCheck_iff, addressCheck_iff,
    epochAt_eq_some_iff, State.restorable]
  cases e.kind with
  | undo =>
    simp only [ne_eq, reduceCtorEq, not_false_eq_true, true_and, false_and, or_false, forall_const]
    tauto
  | mark =>
    simp only [ne_eq, reduceCtorEq, not_false_eq_true, true_and, false_and, false_or, IsEmpty.forall_iff, and_true]
    tauto
  | void => simp

/-! ## What a restore step leaves (R99, R100, R104) -/

section
variable {r : RollbackRecord} {s : State} (hr : s.engine.rollback = some r)
include hr

/-- The ROLLING anchor written (R98). -/
theorem rollbackAnchorDone_eq : rollbackAnchorDone s = { s with
    engine := { s.engine with
      anchor := some s.engine.anchorTarget
      rollback := some { r with phase := phaseFor s.engine.steps } }
    port := ⟨none, s.port.lastSide⟩ } := by
  simp only [rollbackAnchorDone, hr]
  rfl

/-- A restore step complete: one slot down, the expected sequence that of the entry's link (R99, R100). -/
theorem restoreComplete_eq (link : Word) : restoreComplete link s = { s with
    engine := { s.engine with
      steps := s.engine.steps - 1
      rollback := some { r with
        expected := link
        position := (r.position + s.engine.slots - 1) % s.engine.slots
        phase := phaseFor (s.engine.steps - 1) } }
    port := ⟨none, s.port.lastSide⟩ } := by
  simp only [restoreComplete, hr]
  rfl

/-- An entry that passes the checks is acted on (R100). -/
theorem restoreReadDone_passed {e : Entry} {ws : List Word} (he : parseEntry ws = some e) (hc : s.restorable r e) :
    restoreReadDone ws s = restoreAction e s := by
  simp only [restoreReadDone, hr, he, (restoreChecks_iff r s e).2 hc, if_true]

/-- Any other slot is damage (R99, R104). -/
theorem restoreReadDone_damaged {ws : List Word} (h : ∀ e, parseEntry ws = some e → ¬ s.restorable r e) :
    restoreReadDone ws s = rollbackFails (setFlag .journalDamaged s) := by
  cases he : parseEntry ws with
  | none => simp only [restoreReadDone, hr, he]
  | some e =>
    simp only [restoreReadDone, hr, he]
    exact if_neg fun hc => h e he ((restoreChecks_iff r s e).1 hc)

end

/-- A memory error at an anchor write sets two flags (R98, R102, R104). -/
theorem rollbackAnchorFailed_eq (s : State) : rollbackAnchorFailed s =
    rollbackFails (s.flagged (BitVec.twoPow 25 21 ||| BitVec.twoPow 25 23)) := by
  have hflags : (s.flagged (BitVec.twoPow 25 21)).flagged (BitVec.twoPow 25 23) =
      s.flagged (BitVec.twoPow 25 21 ||| BitVec.twoPow 25 23) := by
    simp only [State.flagged, BitVec.or_assoc]
  rw [← hflags]
  rfl

/-- Settles O50: each answer, a slot read's by whether its entry passes the checks. -/
theorem restoreStepsWalkDown : Obligations.RestoreStepsWalkDown := by
  intro r d s hr j n action phase passed fails elementAt nearest checks
  have hfails : ∀ x, fails x (rollbackFails (s.flagged x)) := fun x m rest hm =>
    rollbackFails_eq (s := s.flagged x) hm hr
  refine ⟨fun hw => ?_, fun got hw => ?_, fun link hw => ?_, fun w hw hcase => ?_, fun hw => ?_⟩
  · rw [exec_memoryAnswer_lastWrite hw]
    exact congrArg Host.Outcome.next (rollbackAnchorDone_eq hr)
  · refine ⟨_, exec_memoryAnswer_lastRead hw d, fun e he hc => ?_, fun hbad => ?_⟩
    · have hdone : completeWork .restoreRead (got ++ [d]) s = restoreAction e s := restoreReadDone_passed hr he hc
      refine ⟨fun hk => ?_, fun hk => ?_⟩
      · rw [hdone, restoreAction, hk]
        rfl
      · rw [hdone, restoreAction, hk]
        exact restoreComplete_eq hr e.link
    · have hdone : completeWork .restoreRead (got ++ [d]) s = rollbackFails (setFlag .journalDamaged s) :=
        restoreReadDone_damaged hr hbad
      rw [hdone]
      exact hfails _
  · rw [exec_memoryAnswer_lastWrite hw]
    exact congrArg Host.Outcome.next (restoreComplete_eq hr link)
  · refine ⟨_, exec_memoryAnswer_error hw d, ?_⟩
    rcases hcase with rfl | ⟨link, rfl⟩ | rfl <;> exact hfails _
  · have herror : exec (.memoryAnswer false d) s = .next (rollbackAnchorFailed s) := by
      rcases hw with hw | hw <;> exact exec_memoryAnswer_error hw d
    refine ⟨_, herror, ?_⟩
    rw [rollbackAnchorFailed_eq]
    exact hfails _

end Sys2Proof.Machine
end

section
/-!
PROOFS. A rollback's settlement and its end in BROKEN, and the end of recovery (R53, R101, R102, R104, R110, R140).
-/
namespace Sys2Proof.Machine

/-! ## The end of recovery (R53, R140) -/

/-- Recovery's end sets RECOVERY_DONE, and the held word is looked at again (R53, R140). -/
theorem endRecovery_eq (s : State) : endRecovery s =
    wakeAfterRecovery ((s.withRecovery none).flagged (BitVec.twoPow 25 7)) := rfl

/-- What recovery's end leaves, by where the held word lies (R53, R140). -/
theorem endRecovery_recovered (s : State) : (s.withRecovery none).recovered (endRecovery s) := by
  let v : State := (s.withRecovery none).flagged (BitVec.twoPow 25 7)
  have he : endRecovery s = wakeAfterRecovery v := endRecovery_eq s
  refine ⟨fun hfree => ?_, fun c hc hp => ⟨fun hlt => ?_, fun hle => ?_⟩⟩
  · rw [he, wakeAfterRecovery]
    split
    · rename_i c hc
      rw [if_neg (hfree c hc)]
    · rfl
  · have hc' : v.host.current = some c := hc
    have hin : v.inDataSpace c.wordAddress = true := decide_eq_true hlt
    simp only [he, wakeAfterRecovery, hc', hp, if_true, hin]
    rfl
  · have hc' : v.host.current = some c := hc
    have hout : v.inDataSpace c.wordAddress = false := decide_eq_false (Nat.not_lt.2 hle)
    have hanswer : endRecovery s = answerWord (.fault .outOfSpace) v := by
      simp [he, wakeAfterRecovery, hc', hp, hout]
    obtain ⟨rest, hanswers, hflag, hfaults⟩ := answerWord_flagged_fault (x := .outOfSpace) rfl hc'
    obtain ⟨hengine, hregions, hsources⟩ := answerWord_fault_quiet .outOfSpace v
    have hdone : hasFlag v.events.flags .recoveryDone = true := by
      rw [show v.events = (setFlag .recoveryDone (s.withRecovery none)).events from rfl, setFlag_hasFlag]
      simp
    rw [hanswer]
    exact ⟨⟨rest, hanswers⟩, hfaults, hflag, (answerWord_keeps _ v).flags _ hdone, hengine, by simp [v, State.flagged],
      by simp [v, State.flagged], hregions, hsources, by simp [v, State.flagged], by simp [v, State.flagged]⟩

/-! ## The end of a rollback (R102, R104, R110) -/

/-- A rollback's end: of the exclusive operation, the host port told, or of recovery (R102, R104, R110). -/
def State.rollbackEnds (origin : RollbackOrigin) (t u : State) : Prop :=
  (origin ≠ .recovery → u = offer { cause := .rollbackEnd } { t with
    engine := { t.engine with exclusive := none }
    host := t.woken }) ∧
  (origin = .recovery → (offer { cause := .rollbackEnd } { t with
    engine := { t.engine with recovery := none } }).recovered u)

/-- Both ends of a rollback, the host port told when recovery has not run it (R102, R104, R140). -/
theorem endRollback_ends {t : State} (hp : t.engine.markPending = 0) (origin : RollbackOrigin) :
    t.rollbackEnds origin (endRollback origin (offer { cause := .rollbackEnd } (wakeUnlessRecovery origin t))) := by
  have hcommanded : endExclusive (offer { cause := .rollbackEnd } (wake t)) =
      offer { cause := .rollbackEnd } { t with
        engine := { t.engine with exclusive := none }
        host := t.woken } := by
    rw [wake_eq, endExclusive_of_empty (by exact hp)]
    rfl
  cases origin with
  | armed => exact ⟨fun _ => hcommanded, nofun⟩
  | disarmed => exact ⟨fun _ => hcommanded, nofun⟩
  | recovery => exact ⟨fun h => absurd rfl h, fun _ => endRecovery_recovered (offer { cause := .rollbackEnd } t)⟩

/-- The host port's wake does not look at the flags (R65). -/
theorem setFlag_wakeUnlessRecovery (f : Flag) (origin : RollbackOrigin) (s : State) :
    setFlag f (wakeUnlessRecovery origin s) = wakeUnlessRecovery origin (setFlag f s) := by
  cases origin <;> simp only [wakeUnlessRecovery, wake_eq] <;> rfl

/-! ## The settlement (R102) -/

/-- The mark list cut after the first element at the target's slot (R102). -/
theorem cutMarks_of_append {before after : List MarkElement} {m : MarkElement} {slot : Nat} (hm : m.slot = slot)
    (hb : ∀ x ∈ before, x.slot ≠ slot) : cutMarks slot (before ++ m :: after) = before ++ [m] := by
  induction before with
  | nil => simp [cutMarks, hm]
  | cons x before ih =>
    have hx : x.slot ≠ slot := hb x (by simp)
    have hrest : ∀ y ∈ before, y.slot ≠ slot := fun y hy => hb y (by simp [hy])
    rw [List.cons_append, cutMarks, if_neg hx, ih hrest, List.cons_append]

/-- A settled rollback returns to ARMED or DISARMED (R102). -/
theorem settledState_eq (origin : RollbackOrigin) :
    origin.settledState = if origin = .armed then .armed else .disarmed := by
  cases origin <;> rfl

/-- The journal cut back to the target, ROLLBACK_DONE set, the rollback's end still to come (R102). -/
def State.settledTo (r : RollbackRecord) (s : State) : State := { s.flagged (BitVec.twoPow 25 5) with
  engine := { s.engine with
    state := r.origin.settledState
    anchor := some s.engine.anchorTarget
    rollback := none
    steps := 0
    journal := s.engine.journal.cutTo s.engine.slots r }
  sources := { s.sources with timer := if s.settings.timerMode = .quiet then none else s.sources.timer }
  port := ⟨none, s.port.lastSide⟩ }

/-- The engine BROKEN with its journal emptied, the rollback's end still to come (R104). -/
def State.rollbackBroke (s : State) : State := { s with
  engine := { s.engine with
    state := .broken
    rollback := none
    journal := s.engine.journal.broken }
  sources := { s.sources with timer := none }
  port := ⟨none, s.port.lastSide⟩ }

section
variable {r : RollbackRecord} {s : State} (hr : s.engine.rollback = some r)
include hr

theorem settleAnchorDone_eq : settleAnchorDone s =
    endRollback r.origin (offer { cause := .rollbackEnd } (wakeUnlessRecovery r.origin (s.settledTo r))) := by
  simp only [settleAnchorDone, hr]
  rw [setFlag_wakeUnlessRecovery, stopQuietTimer_eq]
  rfl

theorem rollbackBroken_eq : rollbackBroken s =
    endRollback r.origin (offer { cause := .rollbackEnd } (wakeUnlessRecovery r.origin s.rollbackBroke)) := by
  simp only [rollbackBroken, hr]
  rfl

end

/-- Settles O51: the settlement and the end in BROKEN, each ending the rollback for whoever ran it. -/
theorem rollbackSettlesOrBreaks : Obligations.RollbackSettlesOrBreaks := by
  intro r d s hr hp j n action ends
  refine ⟨fun m rest hw hm => ?_, fun before m after hw hm ht hb => ?_, fun ok hw => ?_⟩
  · have hdone : completeWork .settleVoid [] s = settleAnchorStep r s := by
      simp only [completeWork, settleVoidDone, hr]
    rw [exec_memoryAnswer_lastWrite hw, hdone, settleAnchorStep_eq hm]
  · have hcut : cutMarks r.targetSlot s.engine.journal.marks = before ++ [m] := hm ▸ cutMarks_of_append ht hb
    refine ⟨_, exec_memoryAnswer_lastWrite hw d, ?_⟩
    simp only [completeWork, settleAnchorDone_eq hr]
    rw [← hcut, ← settledState_eq]
    exact endRollback_ends (t := s.settledTo r) hp r.origin
  · cases ok with
    | true =>
      refine ⟨_, exec_memoryAnswer_lastWrite hw d, ?_⟩
      simp only [completeWork, brokenAnchorDone, rollbackBroken_eq (s := anchorWritten s) hr]
      exact endRollback_ends (t := (anchorWritten s).rollbackBroke) hp r.origin
    | false =>
      refine ⟨_, exec_memoryAnswer_error hw d, ?_⟩
      simp only [failWork, brokenAnchorFailed, rollbackBroken_eq (s := setFlag .anchorFault s) hr]
      exact endRollback_ends (t := (setFlag .anchorFault s).rollbackBroke) hp r.origin

end Sys2Proof.Machine
end

section
/-!
PROOFS. The memory port: the arbiter's choice between the two sides, and the next access of a run (R53, R66, R112, R118, R119).
-/
namespace Sys2Proof.Machine

/-! ## When a side asks (R53, R66) -/

/-- No host word asks while recovery is under way (R53). -/
theorem hostRequest_of_inRecovery {s : State} (h : s.engine.inRecovery = true) : s.hostRequest = false := by
  simp [State.hostRequest, h]

/-! ## When a side is granted (R118) -/

theorem grantsHost_iff {s : State} : s.grantsHost = true ↔
    s.port.tenancy = none ∧ s.hostRequest = true ∧ (s.engineRequest = none ∨ s.port.lastSide = .engine) := by
  simp [State.grantsHost, and_assoc]

theorem grantsEngine_iff {r : Request} {s : State} : s.grantsEngine r = true ↔
    s.port.tenancy = none ∧ s.engineRequest = some r ∧ (s.hostRequest = false ∨ s.port.lastSide = .host) := by
  simp [State.grantsEngine, and_assoc]

/-- The arbiter grants one side at a time (R118). -/
theorem grantsHost_eq_false_of_grantsEngine {r : Request} {s : State} (h : s.grantsEngine r = true) :
    s.grantsHost = false := by
  obtain ⟨-, hr, hturn⟩ := grantsEngine_iff.mp h
  refine Bool.eq_false_iff.mpr fun hg => ?_
  obtain ⟨-, hq, hr' | hl⟩ := grantsHost_iff.mp hg
  · simp [hr] at hr'
  · simp [hq, hl] at hturn

/-- A word whose hold has reached the limit is not granted (R66). -/
theorem grantsHost_eq_false_of_hold_reached {c : HostAccess} {n : Nat} {s : State} (hc : s.host.current = some c)
    (hn : c.hold = some n) (hne : s.settings.holdLimit ≠ 0) (hle : s.settings.holdLimit ≤ n) : s.grantsHost = false := by
  refine Bool.eq_false_iff.mpr fun hg => ?_
  have hwithin := hold_within_of_grantsHost hg hc
  simp only [hn, Option.getD_some] at hwithin
  omega

/-- Settles O42: what each side's grant needs, and that a grant to the engine excludes one to the host. -/
theorem arbiterAlternates : Obligations.ArbiterAlternates := by
  intro r s
  refine ⟨fun ht => ⟨?_, ?_⟩, fun hrec => ?_, fun c n hc hn hne hle => grantsHost_eq_false_of_hold_reached hc hn hne hle,
    fun ht hr hq => ⟨fun hl => ?_, fun hl => ?_⟩, fun ht hr hq => ?_, fun ht hr hq => ?_⟩
  · exact Bool.eq_false_iff.mpr fun hg => ht (grantsHost_iff.mp hg).1
  · exact Bool.eq_false_iff.mpr fun hg => ht (tenancy_none_of_grantsEngine hg)
  · simp [State.grantsHost, hostRequest_of_inRecovery hrec]
  · have hg : s.grantsEngine r = true := grantsEngine_iff.mpr ⟨ht, hr, .inr hl⟩
    exact ⟨hg, grantsHost_eq_false_of_grantsEngine hg⟩
  · have hg : s.grantsHost = true := grantsHost_iff.mpr ⟨ht, hq, .inr hl⟩
    refine ⟨hg, Bool.eq_false_iff.mpr fun he => ?_⟩
    simp [grantsHost_eq_false_of_grantsEngine he] at hg
  · exact grantsEngine_iff.mpr ⟨ht, hr, .inl hq⟩
  · exact grantsHost_iff.mpr ⟨ht, hq, .inl hr⟩

/-! ## The accesses of a run (R112, R119) -/

/-- An access answered OK goes on with its tenancy's run. -/
theorem exec_memoryAnswer_ok {x : Tenancy} {s : State} (h : s.port.tenancy = some x) (d : Word) :
    exec (.memoryAnswer true d) s = .next (accessAnswered x d s) := by
  simp [exec_memoryAnswer, execMemoryAnswer, h]

theorem accessAnswered_write_more (w : Work) (a : Nat) (l : Lanes) (x y d : Word) (rest : List Word) (s : State) :
    accessAnswered ⟨w, .write a l x (y :: rest)⟩ d s =
      { s with port := ⟨some ⟨w, .write (a + 4) l y rest⟩, s.port.lastSide⟩ } := rfl

theorem accessAnswered_read_more (w : Work) (a n : Nat) (got : List Word) (d : Word) (s : State) :
    accessAnswered ⟨w, .read a (n + 1) got⟩ d s =
      { s with port := ⟨some ⟨w, .read (a + 4) n (got ++ [d])⟩, s.port.lastSide⟩ } := rfl

/-- Settles O43: by the kind of access, a run with a word left issues its next one. -/
theorem nextAccessIsIssued : Obligations.NextAccessIsIssued := by
  intro w d s
  refine ⟨fun a l x y rest ht => ?_, fun a n got ht => ?_⟩
  · rw [exec_memoryAnswer_ok ht, accessAnswered_write_more]
  · rw [exec_memoryAnswer_ok ht, accessAnswered_read_more]

end Sys2Proof.Machine
end

section
/-!
PROOFS. Recovery: the current anchor chosen, the scan of the journal and what it leads to (R110, R125, R126, R135 to R140).
-/
namespace Sys2Proof.Machine

/-- The state an end of recovery leaves is recovered from the one the engine stood in (R140). -/
theorem recovered_of_endRecovery {s t u : State} (ht : t = endRecovery u) (hs : s = u.withRecovery none) :
    s.recovered t := by
  rw [ht, hs]
  exact endRecovery_recovered u

/-! ## The choice of the current anchor (R125, R135) -/

/-- The copy that two readings make the current anchor: the serially later of two valid ones, A when neither is, or the valid
one beside an invalid one (R125, R135). -/
def currentAnchor (a b : CopyReading) (p : Copy) (f : AnchorCopy) : Prop :=
  p = .a ∧ a = .valid f ∧ (b = .invalid ∨ ∃ g, b = .valid g ∧ later g.generation f.generation = false) ∨
  p = .b ∧ b = .valid f ∧ (a = .invalid ∨ ∃ g, a = .valid g ∧ later f.generation g.generation = true)

theorem chooseAnchor_current {a b : CopyReading} {p : Copy} {f : AnchorCopy} (h : currentAnchor a b p f) :
    chooseAnchor a b = .current p f := by
  rcases h with ⟨rfl, rfl, rfl | ⟨g, rfl, hg⟩⟩ | ⟨rfl, rfl, rfl | ⟨g, rfl, hg⟩⟩
  · rfl
  · simp only [chooseAnchor, hg, Bool.false_eq_true, if_false]
  · rfl
  · simp only [chooseAnchor, hg, if_true]

/-- Without a valid copy there is no current anchor (R135). -/
theorem chooseAnchor_none {a b : CopyReading} (ha : ∀ f, a ≠ .valid f) (hb : ∀ f, b ≠ .valid f) :
    chooseAnchor a b = .none := by
  cases a with
  | valid f => exact absurd rfl (ha f)
  | invalid | unreadable =>
    cases b with
    | valid f => exact absurd rfl (hb f)
    | invalid | unreadable => rfl

/-- Both copies read, one of them is the current anchor (R135). -/
theorem copyBRead_current {a b : CopyReading} {p : Copy} {f : AnchorCopy} (h : currentAnchor a b p f) (s : State) :
    copyBRead a b s = recoveryDecision f (adoptAnchor p f (endTenancy s)) := by
  simp only [copyBRead, anchorsRead, chooseAnchor_current h]

/-- Both copies read, none of them is valid (R135). -/
theorem copyBRead_none {a b : CopyReading} (ha : ∀ f, a ≠ .valid f) (hb : ∀ f, b ≠ .valid f) (s : State) :
    copyBRead a b s =
      endRecovery ((((endTenancy s).withGeometry none).withAnchor none).withEngineState .unformatted) := by
  simp only [copyBRead, anchorsRead, chooseAnchor_none ha hb]

/-- An OPEN, IDLE or ROLLING anchor leads to the scan from its head slot (R136). -/
theorem recoveryDecision_scans {f : AnchorCopy} (h : f.state = .opened ∨ f.state = .idle ∨ f.state = .rolling) (s : State) :
    recoveryDecision f s = s.withRecovery (some (.scan f f.headSlot)) := by
  rcases h with h | h | h <;> simp only [recoveryDecision, h]

/-- Settles O53: copy A's reading kept, then each pair of readings. -/
theorem recoveryChoosesTheAnchor : Obligations.RecoveryChoosesTheAnchor := by
  intro a got d s back read failed adopted unformatted current
  refine ⟨fun hr => ?_, fun hw => ?_, fun p f hr hc => ?_, fun f hr ha hf => ?_, fun hr hi ha => ?_, fun hw => ?_⟩
  · rw [exec_memoryAnswer_lastRead hr]
    rfl
  · rw [exec_memoryAnswer_error hw]
    rfl
  · have hdecides : completeWork (.readCopyB a) (got ++ [d]) s = recoveryDecision f (adoptAnchor p f (endTenancy s)) :=
      copyBRead_current hc s
    rw [exec_memoryAnswer_lastRead hr, hdecides]
    refine ⟨_, rfl, fun hs => ?_, fun hs => ?_, fun hs => ?_⟩
    · rw [recoveryDecision_scans hs]
      rfl
    · simp only [recoveryDecision, hs]
      exact recovered_of_endRecovery rfl rfl
    · simp only [recoveryDecision, hs]
      exact recovered_of_endRecovery rfl rfl
  · have hbroken : completeWork (.readCopyB a) (got ++ [d]) s = copyBRead .unreadable (.valid f) s := by
      rw [← ha, ← hf]
      rfl
    rw [exec_memoryAnswer_lastRead hr, hbroken]
    exact ⟨_, rfl, recovered_of_endRecovery rfl rfl⟩
  · have hnone : completeWork (.readCopyB a) (got ++ [d]) s = copyBRead a .invalid s := by
      rw [← hi]
      rfl
    rw [exec_memoryAnswer_lastRead hr, hnone, copyBRead_none (b := .invalid) ha fun _ h => nomatch h]
    exact ⟨_, rfl, recovered_of_endRecovery rfl rfl⟩
  · refine ⟨_, exec_memoryAnswer_error hw d, fun f ha => ?_, fun ha => ?_⟩
    · subst ha
      exact recovered_of_endRecovery rfl rfl
    · have hnone : failWork (.readCopyB a) s = copyBRead a .unreadable failed := rfl
      rw [hnone, copyBRead_none (b := .unreadable) ha fun _ h => nomatch h]
      exact recovered_of_endRecovery rfl rfl

/-! ## The entries the scan accepts (R137) -/

/-- The head slot's entry is the MARK that the anchor names as head (R137). -/
def AnchorCopy.headFits (f : AnchorCopy) (e : Entry) : Prop :=
  e.kind = .mark ∧ e.sequence = f.headSequence ∧ e.third = e.epoch

theorem headAccepted_iff (f : AnchorCopy) (e : Entry) : headAccepted f e = true ↔ f.headFits e := by
  simp [headAccepted, AnchorCopy.headFits, and_assoc]

/-- An entry continues the journal: linked to the newest entry and serially later, an UNDO in its epoch or a MARK of the next
(R137). -/
def Journal.followedBy (j : Journal) (e : Entry) : Prop :=
  e.link = j.newestSequence ∧ later e.sequence j.newestSequence = true ∧
    (e.kind = .undo ∧ e.epoch = j.epoch ∨
      e.kind = .mark ∧ e.epoch = j.epoch + 1 ∧ e.third = j.epoch + 1 ∧ j.marks.length < 16)

theorem epochFollows_iff (j : Journal) (e : Entry) : epochFollows j e = true ↔
    e.kind = .undo ∧ e.epoch = j.epoch ∨
      e.kind = .mark ∧ e.epoch = j.epoch + 1 ∧ e.third = j.epoch + 1 ∧ j.marks.length < 16 := by
  unfold epochFollows
  cases e.kind <;> simp [Config.markCapacity, and_assoc]

theorem entryFollows_iff (j : Journal) (e : Entry) : entryFollows j e = true ↔ j.followedBy e := by
  simp only [entryFollows, Bool.and_eq_true, epochFollows_iff, beq_iff_eq, Journal.followedBy]
  tauto

section
variable {f : AnchorCopy} {slot : Nat} {ws : List Word} {s : State}

/-- A slot read whose entry is accepted (R137). -/
theorem scanDone_accepts {e : Entry} (he : parseEntry ws = some e)
    (h : s.engine.journal.fill = 0 ∧ f.headFits e ∨ s.engine.journal.fill ≠ 0 ∧ s.engine.journal.followedBy e) :
    scanDone f slot ws s = scanAccept f slot e (endTenancy s) := by
  rcases h with ⟨h0, hfits⟩ | ⟨h0, hfollows⟩
  · simp only [scanDone, h0, if_true, scanHead, he, (headAccepted_iff f e).2 hfits]
  · simp only [scanDone, h0, if_false, scanNext, he]
    exact if_pos ((entryFollows_iff _ e).2 hfollows)

/-- A head slot without the anchor's MARK gives BROKEN (R137). -/
theorem scanDone_headless (h0 : s.engine.journal.fill = 0) (h : ∀ e, parseEntry ws = some e → ¬ f.headFits e) :
    scanDone f slot ws s = recoveryBroken (endTenancy s) := by
  simp only [scanDone, h0, if_true, scanHead]
  cases he : parseEntry ws with
  | none => rfl
  | some e => exact if_neg fun hfits => h e he ((headAccepted_iff f e).1 hfits)

/-- A slot that does not continue the journal stops the scan (R138). -/
theorem scanDone_stops (h0 : s.engine.journal.fill ≠ 0)
    (h : ∀ e, parseEntry ws = some e → ¬ s.engine.journal.followedBy e) :
    scanDone f slot ws s = scanComplete f (nextAfterScan s.engine.journal ws) (endTenancy s) := by
  simp only [scanDone, h0, if_false, scanNext]
  cases he : parseEntry ws with
  | none => rfl
  | some e => exact if_neg fun hfollows => h e he ((entryFollows_iff _ e).1 hfollows)

end

/-- A VOID linked to the newest entry and serially later gives the next sequence (R138). -/
theorem nextAfterScan_void {j : Journal} {ws : List Word} {e : Entry} (he : parseEntry ws = some e) (hk : e.kind = .void)
    (hl : e.link = j.newestSequence) (hs : later e.sequence j.newestSequence = true) : nextAfterScan j ws = e.sequence := by
  simp only [nextAfterScan, he]
  exact if_pos ⟨hk, hl, hs⟩

/-- Any other stopping slot gives the newest sequence + 1 (R138). -/
theorem nextAfterScan_else {j : Journal} {ws : List Word} (h : ∀ e, parseEntry ws = some e →
    e.kind = .void → e.link ≠ j.newestSequence ∨ later e.sequence j.newestSequence = false) :
    nextAfterScan j ws = j.newestSequence + 1 := by
  unfold nextAfterScan
  split
  · rename_i e he
    refine if_neg fun ⟨hk, hl, hs⟩ => ?_
    rcases h e he hk with hne | hearlier
    · exact hne hl
    · simp [hs] at hearlier
  · rfl

/-! ## The outcome of the scan (R110, R139) -/

section
variable {f : AnchorCopy} {s : State}

/-- IDLE, and OPEN with KEEP, give DISARMED (R139). -/
theorem recoveryOutcome_disarmed (h : f.state = .idle ∨ f.state = .opened ∧ f.action = .keep) :
    recoveryOutcome f s = recoveryDisarmed s := by
  rcases h with h | ⟨h, ha⟩
  · simp only [recoveryOutcome, h]
  · simp only [recoveryOutcome, h, ha]

/-- OPEN with REVERT gives a rollback to the newest mark (R139). -/
theorem recoveryOutcome_reverts {m : MarkElement} (h : f.state = .opened) (ha : f.action = .revert)
    (hm : s.engine.journal.marks.getLast? = some m) : recoveryOutcome f s = beginRecoveryRollback .anchor m s := by
  simp only [recoveryOutcome, h, ha, revertToNewest, hm]

/-- ROLLING resumes the rollback to the first mark of its target sequence (R110, R139). -/
theorem recoveryOutcome_resumes {before after : List MarkElement} {m : MarkElement} (h : f.state = .rolling)
    (hk : s.engine.journal.marks = before ++ m :: after) (hm : m.sequence = f.targetSequence)
    (hb : ∀ x ∈ before, x.sequence ≠ f.targetSequence) :
    recoveryOutcome f s = beginRecoveryRollback (phaseFor (s.engine.stepsTo m.slot)) m s := by
  have hfind : (s.engine.journal.marks.find? fun m => m.sequence == f.targetSequence) = some m :=
    List.find?_eq_some_iff_append.2 ⟨by simp [hm], before, after, hk, fun x hx => by simpa using hb x hx⟩
  simp only [recoveryOutcome, h, resumeRolling, hfind]

/-- ROLLING gives BROKEN when no mark has its target sequence (R110). -/
theorem recoveryOutcome_lost (h : f.state = .rolling)
    (hm : ∀ m ∈ s.engine.journal.marks, m.sequence ≠ f.targetSequence) : recoveryOutcome f s = recoveryBroken s := by
  have hfind : (s.engine.journal.marks.find? fun m => m.sequence == f.targetSequence) = none :=
    List.find?_eq_none.2 fun m h => by simpa using hm m h
  simp only [recoveryOutcome, h, resumeRolling, hfind]

end

/-- Settles O54: the slot read accepted, not the head's, or stopping the scan; the outcome by the anchor. -/
theorem scanRebuildsTheJournal : Obligations.ScanRebuildsTheJournal := by
  intro f slot got d s back j n read headFits follows accepted left rolls ended
  have hended : ∀ scanned next, ended scanned next (scanComplete f next ((endTenancy s).withJournal scanned)) := by
    intro scanned next
    refine ⟨fun h => ?_, fun m ho ha hm => ?_, fun h => ⟨fun before m after hk hm hb => ?_, fun hnone => ?_⟩⟩
    · rw [scanComplete, recoveryOutcome_disarmed h]
      exact recovered_of_endRecovery rfl rfl
    · rw [scanComplete, recoveryOutcome_reverts ho ha hm]
      rfl
    · rw [scanComplete, recoveryOutcome_resumes h hk hm hb]
      rfl
    · rw [scanComplete, recoveryOutcome_lost h hnone]
      exact recovered_of_endRecovery rfl rfl
  refine ⟨fun hr => ⟨scanDone f slot (got ++ [d]) s, exec_memoryAnswer_lastRead hr d, fun e he hfits => ?_,
    fun h0 hbad => ?_, fun e h0 he hk hl hs => ?_, fun h0 hbad => ?_⟩, fun hw => ?_⟩
  · rw [scanDone_accepts he hfits]
    refine ⟨fun hroom => ?_, fun hfull => ?_⟩
    · rw [scanAccept, if_pos (by exact hroom)]
      rfl
    · rw [scanAccept, if_neg (by exact Nat.not_lt.2 hfull)]
      exact hended (accepted e) (e.sequence + 1)
  · rw [scanDone_headless h0 hbad]
    exact recovered_of_endRecovery rfl rfl
  · have hstops : ∀ x, read = some x → ¬ j.followedBy x := by
      rintro x hx ⟨-, -, ⟨hu, -⟩ | ⟨hm, -⟩⟩ <;> obtain rfl : e = x := Option.some.inj (he.symm.trans hx)
      · exact nomatch hk.symm.trans hu
      · exact nomatch hk.symm.trans hm
    rw [scanDone_stops h0 hstops, nextAfterScan_void he hk hl hs]
    exact hended j e.sequence
  · rw [scanDone_stops h0 fun e he => (hbad e he).1, nextAfterScan_else fun e he => (hbad e he).2]
    exact hended j (j.newestSequence + 1)
  · exact ⟨_, exec_memoryAnswer_error hw d, recovered_of_endRecovery rfl rfl⟩

end Sys2Proof.Machine
end

section
/-!
PROOFS. FORMAT: the command taken, what its and recovery's tenancies issue, and memory's answers to them and to a PEEK (R117,
R122, R129 to R133, R135, R137).
-/
namespace Sys2Proof.Machine

/-! ## FORMAT taken (R129) -/

/-- The code of an allowed size is read as that size (R3, R129). -/
theorem decodeSizeCode_of_allowed {memory : Fin 5} {k : Fin 8} (h : sizeAllowed memory k = true) :
    decodeSizeCode memory (BitVec.ofNat 8 k.val) = some k := by
  have hcode : (BitVec.ofNat 8 k.val).toNat = k.val := by
    rw [BitVec.toNat_ofNat, Nat.mod_eq_of_lt (by omega)]
  simp only [decodeSizeCode, hcode, k.isLt, dif_pos, Fin.eta, h, if_true]

/-- Nothing bars FORMAT of a free engine that is UNFORMATTED, DISARMED or BROKEN (R117, R129). -/
theorem judgeFormat_taken {k : Fin 8} {s : State} (ho : s.engineOccupied = false)
    (hs : s.engine.state = .unformatted ∨ s.engine.state = .disarmed ∨ s.engine.state = .broken)
    (hk : sizeAllowed s.memoryCode k = true) :
    judgeFormat (BitVec.ofNat 8 k.val) s = (answerOnly .accepted, beginFormat k s) := by
  simp only [judgeFormat, decodeSizeCode_of_allowed hk]
  rcases hs with hs | hs | hs <;> simp [hs, takeFormat, ho]

/-- Settles O20: nothing bars the command, whatever the host does. -/
theorem formatIsTaken : Obligations.FormatIsTaken := by
  intro k s h hfree hs hk
  have hallowed : sizeAllowed s.memoryCode k = true := decide_eq_true hk
  exact exec_of_engineJudgement h rfl rfl (judgeFormat_taken (engineOccupied_of_free hfree) hs hallowed) rfl

/-! ## The grants (R130 to R132, R135, R137) -/

section
variable {s : State}

/-- FORMAT's first tenancy at its grant (R130). -/
theorem exec_formatAnchorClear_granted (h : s.grantsEngine .formatAnchors = true) : exec .formatAnchorClear s = .next
    (issueClear (.clearFirst s.engine.anchorTarget.1.other) (s.copyAddress s.engine.anchorTarget.1) s.engineGranted) :=
  onGrant_granted h _

/-- A slot's clearing tenancy at its grant (R131). -/
theorem exec_formatSlotClear_granted {n : Nat} (h : s.grantsEngine .formatSlot = true)
    (hx : s.engine.exclusive = some (.format (.slot n))) :
    exec .formatSlotClear s = .next (issueClear (.clearSlot n) (s.slotAddress n) s.engineGranted) := by
  have hn : s.engine.formatSlot = n := by rw [Engine.formatSlot, hx]
  rw [← hn]
  exact onGrant_granted h _

/-- FORMAT's final tenancy at its grant (R132). -/
theorem exec_formatFinalAnchor_granted (h : s.grantsEngine .formatFinal = true) :
    exec .formatFinalAnchor s = .next (issueAnchor .formatAnchor formatFields s.engineGranted) :=
  onGrant_granted h _

/-- Recovery's read of copy A at its grant (R135). -/
theorem exec_recoveryAnchorRead_copyA (h : s.grantsEngine .recoveryRead = true)
    (hr : s.engine.recovery = some .copyA) :
    exec .recoveryAnchorRead s = .next (issueReads .readCopyA (s.copyAddress .a) 7 s.engineGranted) := by
  have he : exec .recoveryAnchorRead s = execRecoveryAnchorRead s := rfl
  rw [he, execRecoveryAnchorRead, onGrant_granted h]
  simp only [State.engineGranted, hr]
  rfl

/-- Recovery's read of copy B at its grant (R135). -/
theorem exec_recoveryAnchorRead_copyB {a : CopyReading} (h : s.grantsEngine .recoveryRead = true)
    (hr : s.engine.recovery = some (.copyB a)) :
    exec .recoveryAnchorRead s = .next (issueReads (.readCopyB a) (s.copyAddress .b) 7 s.engineGranted) := by
  have he : exec .recoveryAnchorRead s = execRecoveryAnchorRead s := rfl
  rw [he, execRecoveryAnchorRead, onGrant_granted h]
  simp only [State.engineGranted, hr]
  rfl

/-- A scan step at its grant (R137). -/
theorem exec_scanStep_granted {f : AnchorCopy} {slot : Nat} (h : s.grantsEngine .scan = true)
    (hr : s.engine.recovery = some (.scan f slot)) :
    exec .scanStep s = .next (issueSlotRead (.scan f slot) slot s.engineGranted) := by
  have he : exec .scanStep s = execScanStep s := rfl
  rw [he, execScanStep, onGrant_granted h]
  simp only [State.engineGranted, hr]

end

/-- Settles O41: each tenancy's first access, FORMAT's first by the anchor record. -/
theorem formatAndRecoveryTenanciesBegin : Obligations.FormatAndRecoveryTenanciesBegin := by
  intro s first
  have hfirst : s.engine.anchorTarget.1 = first := by
    rcases ha : s.engine.anchor with _ | ⟨_ | _, g⟩ <;> simp only [first, Engine.anchorTarget, ha] <;> rfl
  refine ⟨fun h => ?_, fun n h hx => ?_, fun h => ?_, fun h hr => ?_, fun a h hr => ?_, fun f slot h hr => ?_⟩
  · rw [exec_formatAnchorClear_granted h, hfirst]
    rfl
  · rw [exec_formatSlotClear_granted h hx]
    rfl
  · rw [exec_formatFinalAnchor_granted h]
    rfl
  · rw [exec_recoveryAnchorRead_copyA h hr]
    rfl
  · rw [exec_recoveryAnchorRead_copyB h hr]
    rfl
  · rw [exec_scanStep_granted h hr]
    rfl

/-! ## Memory's answers to FORMAT and PEEK (R122, R130 to R133) -/

/-- The engine UNFORMATTED after a memory error during FORMAT (R133). -/
def State.formatBroke (s : State) : State := { s.flagged (BitVec.twoPow 25 21) with
  engine := { s.engine with
    state := .unformatted
    geometry := none
    anchor := none
    journal := s.engine.journal.broken
    exclusive := none }
  port := ⟨none, s.port.lastSide⟩ }

/-- A failed access of FORMAT (R133). -/
theorem formatFailed_eq {s : State} (hp : s.engine.markPending = 0) : formatFailed s = s.formatBroke := by
  rw [formatFailed, endExclusive_of_empty (by exact hp)]
  rfl

/-- FORMAT's final anchor written (R132). -/
theorem formatDone_eq {s : State} (hp : s.engine.markPending = 0) : formatDone s = { s.flagged (BitVec.twoPow 25 6) with
    engine := { s.engine with
      state := .disarmed
      anchor := some s.engine.anchorTarget
      steps := 0
      exclusive := none }
    port := ⟨none, s.port.lastSide⟩ } := by
  rw [formatDone, endExclusive_of_empty (by exact hp)]
  rfl

/-- Settles O52: each write's answer, and the read's. -/
theorem formatAndPeekComplete : Obligations.FormatAndPeekComplete := by
  intro d s back
  refine ⟨fun c hw => ?_, fun hw => ?_, fun k hw => ?_, fun hw hp => ?_, fun w hw hp hcase => ?_, fun k kept got hr => ?_,
    fun k kept hw => ?_⟩
  · rw [exec_memoryAnswer_lastWrite hw]
    rfl
  · rw [exec_memoryAnswer_lastWrite hw]
    rfl
  · rw [exec_memoryAnswer_lastWrite hw]
    rfl
  · rw [exec_memoryAnswer_lastWrite hw]
    exact congrArg Host.Outcome.next (formatDone_eq hp)
  · rw [exec_memoryAnswer_error hw]
    rcases hcase with ⟨c, rfl⟩ | rfl | ⟨k, rfl⟩ | rfl
    · exact congrArg Host.Outcome.next (formatFailed_eq hp)
    · exact congrArg Host.Outcome.next (formatFailed_eq hp)
    · exact congrArg Host.Outcome.next (formatFailed_eq hp)
    · exact congrArg Host.Outcome.next (formatFailed_eq (s := setFlag .anchorFault s) hp)
  · rw [exec_memoryAnswer_lastRead hr]
    rfl
  · rw [exec_memoryAnswer_error hw]
    rfl

end Sys2Proof.Machine
end

section
/-!
PROOFS. A failed anchor write outside rollback and FORMAT (R17, R58, R61, R65, R78, R88, R90, R91, R127).
-/
namespace Sys2Proof.Machine

/-- The engine BROKEN by a failed anchor write, the port given back and the host port not yet told (R127). -/
def State.anchorBroke (s : State) : State := { s.flagged (BitVec.twoPow 25 23) with
  engine := { s.engine with state := .broken, journal := s.engine.journal.broken }
  sources := { s.sources with timer := none }
  port := ⟨none, s.port.lastSide⟩ }

/-- The same with the host port told (R65, R127). -/
def State.anchorBrokeTold (s : State) : State := { s.anchorBroke with host := s.woken }

theorem endTenancy_anchorFailure (s : State) : endTenancy (anchorFailure s) = s.anchorBrokeTold := by
  rw [anchorFailure, wake_eq]
  rfl

/-! ## An engine tenancy's anchor write (R78, R88, R90, R91) -/

/-- The end of an exclusive operation in a BROKEN engine (R91). -/
theorem endExclusive_anchorBrokeTold (s : State) : endExclusive s.anchorBrokeTold = {
    (if s.engine.markPending = 0 then s.anchorBrokeTold else s.anchorBrokeTold.flagged (BitVec.twoPow 25 1)) with
    engine := { s.anchorBroke.engine with exclusive := none, markPending := 0 } } :=
  endExclusive_of_not_armed nofun

theorem markAnchorFailed_eq (s : State) : markAnchorFailed s = s.anchorBrokeTold.flagged (BitVec.twoPow 25 1) := by
  rw [markAnchorFailed, endTenancy_anchorFailure]
  rfl

theorem armAnchorFailed_eq (s : State) : armAnchorFailed s = { s.anchorBrokeTold.flagged (BitVec.twoPow 25 1) with
    engine := { s.anchorBroke.engine with exclusive := none, markPending := 0 } } := by
  have hmissed : armAnchorFailed s = endExclusive (s.anchorBrokeTold.flagged (BitVec.twoPow 25 1)) := by
    rw [armAnchorFailed, endTenancy_anchorFailure]
    rfl
  have hstate : (s.anchorBrokeTold.flagged (BitVec.twoPow 25 1)).engine.state ≠ .armed := nofun
  rw [hmissed, endExclusive_of_not_armed hstate, flagged_flagged, ite_self]
  rfl

/-! ## A host tenancy's anchor write (R17, R58, R61) -/

/-- The host tenancies that write an anchor fail alike (R127). -/
theorem failWork_hostAnchor {w : Work} (hw : w.writesAnchor = true) (hh : w.ofHost = true) (s : State) :
    failWork w s = hostAnchorFailed s := by
  cases w with
  | hostFirstWrite | hostRelease | hostLose => rfl
  | hostRead | hostWrite | hostOldValue | hostUndo => exact nomatch hw
  | _ => exact nomatch hh

/-- The host's word is answered MEMORY_FAULT by the BROKEN engine (R127). -/
theorem hostAnchorFailed_eq (s : State) :
    hostAnchorFailed s = answerWord (.fault .memoryFault) s.anchorBrokeTold := by
  rw [hostAnchorFailed, finishWord, endTenancy_anchorFailure]

/-- Being told of a change touches a word's phase alone (R65). -/
theorem woken_of_current {c : HostAccess} {s : State} (hc : s.host.current = some c) :
    ∃ p, s.woken = { s.host with current := some { c with phase := p } } := by
  by_cases hp : c.phase = .held
  · exact ⟨.waiting, by simp [State.woken, hc, hp]⟩
  · have hself : s.host = { s.host with current := some c } := by rw [← hc]
    exact ⟨c.phase, by simp only [State.woken, hc, if_neg hp]; exact hself⟩

/-- The answer of the host's word, its flag, and the rest of its access (R51, R69, R127). -/
theorem anchorBrokeTold_answers {c : HostAccess} {s : State} (hc : s.host.current = some c) :
    let t := answerWord (.fault .memoryFault) s.anchorBrokeTold
    (∃ rest, t.host.answers = s.host.answers ++ faultTo c.kind .memoryFault :: rest) ∧
    hasFlag t.events.flags .memoryFault = true ∧ s.anchorBroke.faultAnswered c .memoryFault t := by
  obtain ⟨p, hp⟩ := woken_of_current hc
  let c' : HostAccess := { c with phase := p }
  have hhost : s.anchorBrokeTold.host = { s.host with current := some c' } := hp
  have hc' : s.anchorBrokeTold.host.current = some c' := by rw [hhost]
  have hpresented : s.anchorBrokeTold.host.presented = s.host.presented := by rw [hhost]
  have hbefore : s.anchorBrokeTold.host.answers = s.host.answers := by rw [hhost]
  obtain ⟨rest, hanswers, hflag, hfaults⟩ := answerWord_flagged_fault (x := .memoryFault) rfl hc'
  have alike : AlikeForOffers s.anchorBroke s.anchorBrokeTold := ⟨rfl, rfl, rfl, rfl⟩
  exact ⟨⟨rest, hbefore ▸ hanswers⟩, hflag,
    alike.faultAnswered c c' .memoryFault rfl rfl rfl rfl rfl rfl hpresented hbefore rfl hfaults⟩

/-- Settles O48: by what the anchor write belonged to. -/
theorem failedAnchorWriteBreaksTheEngine : Obligations.FailedAnchorWriteBreaksTheEngine := by
  intro w d s hw hwrites broken ending told missed ended
  refine ⟨_, exec_memoryAnswer_error hw d, fun x k hcase => ?_, fun a k hcase => ?_, fun hcase => ?_, fun n hcase => ?_,
    fun hhost => ?_⟩
  · rcases hcase with rfl | rfl | rfl <;> exact markAnchorFailed_eq s
  · rcases hcase with rfl | rfl <;> exact armAnchorFailed_eq s
  · have hends : failWork w s = endExclusive s.anchorBrokeTold := by
      rw [← endTenancy_anchorFailure]
      rcases hcase with rfl | ⟨fresh, rfl⟩ <;> rfl
    rw [hends, endExclusive_anchorBrokeTold]
    by_cases hp : s.engine.markPending = 0
    · rw [if_pos hp, if_pos hp]
      rfl
    · rw [if_neg hp, if_neg hp]
      rfl
  · subst hcase
    exact endTenancy_anchorFailure s
  · obtain ⟨hengine, hregions, hsources⟩ := answerWord_fault_quiet .memoryFault s.anchorBrokeTold
    have hflag : hasFlag s.anchorBrokeTold.events.flags .anchorFault = true := by
      rw [show s.anchorBrokeTold.events = (setFlag .anchorFault s).events from rfl, setFlag_hasFlag]
      simp
    obtain ⟨hsettings, hport, hlink, hcontrol, -⟩ := answerWord_frame (.fault .memoryFault) s.anchorBrokeTold
    rw [failWork_hostAnchor hwrites hhost, hostAnchorFailed_eq]
    exact ⟨hengine, hsources, hport, hregions, hsettings, hlink, hcontrol, (answerWord_keeps _ _).flags _ hflag,
      fun c hc => anchorBrokeTold_answers hc⟩

end Sys2Proof.Machine
end

section
/-!
PROOFS. The power-fail monitor, the entry into HALTED and the warm restart (R53, R69, R70, R92, R108, R122, R134, R141, R142,
R181).
-/
namespace Sys2Proof.Machine

/-! ## The entry into HALTED (R108, R141) -/

theorem exec_enterHalted {s : State} (hr : s.control.resetHeld = false) (hh : s.control.halted = true)
    (ht : s.port.tenancy = none) (hs : s.engine.state ≠ .halted) :
    exec .enterHalted s = .next ((s.withEngine s.engine.toHalted).withTimer none) :=
  congrArg Host.Outcome.next (if_pos (by simp [hr, hh, ht, hs]))

/-- Settles O8: the halt is one update of the engine and the timer. -/
theorem enterHaltedStopsTheEngine : Obligations.EnterHaltedStopsTheEngine := by
  intro s hr hh ht hs
  rw [exec_enterHalted hr hh ht hs]
  rfl

/-! ## The warm restart (R53, R92, R134, R181) -/

theorem exec_warmRestart {s : State} (hr : s.control.resetHeld = false) (hp : s.control.restartPending = true)
    (ht : s.port.tenancy = none) : exec .warmRestart s =
      .next (holdWaiting (((s.withEngine s.engine.restarted).withTimer none).withControl
        { s.control with restartPending := false })) :=
  congrArg Host.Outcome.next (if_pos (by simp [hr, hp, ht]))

/-- The host port as the engine enters RECOVERING: a waiting word is held (R53). -/
def HostPort.recoveryHeld (h : HostPort) : HostPort :=
  match h.current with
  | some c =>
    if c.phase = .waiting then
      { h with current := some { c with phase := .held, hold := some (c.hold.getD 0) } }
    else h
  | none => h

theorem holdWaiting_eq (s : State) : holdWaiting s = { s with host := s.host.recoveryHeld } := by
  unfold holdWaiting HostPort.recoveryHeld
  cases s.host.current with
  | none => rfl
  | some c => by_cases h : c.phase = .waiting <;> simp [h, State.withCurrent, State.withHost]

/-- A READY peek buffer is kept, and a PENDING one becomes EMPTY (R122, R134). -/
def PeekBuffer.ifReady : PeekBuffer → PeekBuffer
  | .ready r => .ready r
  | _ => .empty

theorem cut_eq_ifReady (p : PeekBuffer) : p.cut = p.ifReady := by cases p <;> rfl

/-- Settles O5: the restart is one update of the engine, the timer and the waiting word. -/
theorem warmRestartEntersRecovery : Obligations.WarmRestartEntersRecovery := by
  intro s hr hp ht
  have hengine : s.engine.restarted = { coldEngine with geometry := s.engine.geometry, peek := s.engine.peek.ifReady } := by
    rw [← cut_eq_ifReady]
    rfl
  rw [exec_warmRestart hr hp ht, holdWaiting_eq, hengine]
  rfl

/-! ## Words answered while HALTED (R50, R70) -/

/-- While the part is HALTED every word is answered at its entry checks (R50). -/
theorem entryAnswer_halted (c : HostAccess) {s : State} (h : s.control.halted = true) : entryAnswer c s ≠ none := by
  simp only [entryAnswer, State.haltedForHost, h, Bool.true_or, if_true]
  split <;> exact nofun

/-- While the part is HALTED treating words leaves the host port IDLE (R48, R50). -/
theorem takeWords_halted (n : Nat) (s : State) (h : s.control.halted = true) (hn : s.host.left ≤ n) :
    (takeWords n s).host.current = none := by
  induction n generalizing s with
  | zero =>
    unfold HostPort.left at hn
    cases hc : s.host.current with
    | none => exact hc
    | some c => simp [hc] at hn
  | succ n ih =>
    unfold HostPort.left at hn
    rw [takeWords]
    split
    · rename_i hc
      split
      · rename_i r rest hp
        simp only [hc, hp, List.map_cons, List.sum_cons] at hn
        refine ih _ (by simpa using h) ?_
        simp only [HostPort.left, takePresented, State.withHost_host, HostRequest.access]
        omega
      · exact hc
    · rename_i c hc
      simp only [hc] at hn
      split
      · refine ih _ (by simpa using h) ?_
        simp only [HostPort.left, State.withCurrent_host]
        omega
      · split
        · rename_i a _
          obtain ⟨k, hk⟩ := nextWord_deliver_host a c s hc
          refine ih _ (by simpa using h) ?_
          simp only [HostPort.left, hk]
          omega
        · rename_i hnone
          exact absurd hnone (entryAnswer_halted c h)

/-- A word answered while the part is HALTED leaves the host port IDLE, with nothing presented (R48, R70, R185). -/
theorem answerWord_halted (a : WordResult) {c : HostAccess} {s : State} (hc : s.host.current = some c)
    (h : s.control.halted = true) : (answerWord a s).host = ⟨none, (answerWord a s).host.answers, []⟩ := by
  have hidle : (answerWord a s).host.current = none := by
    rw [answerWord_eq hc]
    exact takeWords_halted _ _ (by simpa using h) (left_le_wordsLeft _)
  rw [← hidle, ← (answerWord_settled a c s hc).2 hidle]

/-- A word answered FAULT whose entry checks answer the rest of its access: the answers of the access, and then those of what
was presented behind it (R50, R51, R185). -/
theorem answerWord_fault_answers {x y : FaultCause} {c : HostAccess} {s : State} (hc : s.host.current = some c)
    (hy : c.restFails s = some y) : ∃ rest, (s.host.presented = [] → rest = []) ∧
      (answerWord (.fault x) s).host.answers = s.host.answers ++ faultTo c.kind x ::
        List.replicate (c.words.length - c.position - 1) (faultTo c.kind y) ++ rest := by
  let v : State := s.presenting []
  have hfaults := answerWord_faultAnswered x c v hc rfl
  rw [show c.restFails v = some y from hy] at hfaults
  obtain ⟨hhost, -, -⟩ := hfaults
  by_cases hp : s.host.presented = []
  · rw [show v = s from presenting_self hp] at hhost
    exact ⟨[], fun _ => rfl, by rw [hhost, List.append_nil]⟩
  · have hs : answerWord (.fault x) s = ((answerWord (.fault x) v).presenting s.host.presented).taken :=
      (answerWord_presenting (.fault x) s.host.presented (s := v) hc rfl).trans (if_pos (by rw [hhost]))
    let u : State := (answerWord (.fault x) v).presenting s.host.presented
    obtain ⟨rest, hrest⟩ := takeWords_answers u.host.wordsLeft u
    have hu : u.host.answers = (answerWord (.fault x) v).host.answers := rfl
    refine ⟨rest, fun h => absurd h hp, ?_⟩
    rw [hs, State.taken, hrest, hu, hhost]
    rfl

/-! ## PFAIL (R70, R141, R142) -/

theorem exec_pfailRelease {s : State} (hr : s.control.resetHeld = false) (hp : s.control.pfail = true) :
    exec .pfailRelease s = .next (s.withControl { s.control with pfail := false }) :=
  congrArg Host.Outcome.next (if_pos (by simp [hr, hp]))

theorem exec_pfailAssert {s : State} (hr : s.control.resetHeld = false) (hp : s.control.pfail = false) :
    exec .pfailAssert s = .next (takePfail s) :=
  congrArg Host.Outcome.next (if_pos (by simp [hr, hp]))

/-- The part HALTED by an assertion of PFAIL, POWER_FAIL set and offered, no word answered yet (R141). -/
def State.powerFailed (s : State) : State :=
  offer { cause := .powerFail } { s.flagged (BitVec.twoPow 25 24) with
    control := { s.control with pfail := true, halted := true } }

/-- An assertion that finds the part HALTED (R141). -/
theorem takePfail_of_halted {s : State} (h : s.control.halted = true) : takePfail s = s.powerFailed := by
  have hcontrol : { s.control with pfail := true } = { s.control with pfail := true, halted := true } := by
    rw [← h]
  rw [takePfail, hcontrol]
  exact if_pos rfl

/-- One that does not answers the word held or waiting (R70, R141). -/
theorem takePfail_of_running {s : State} (h : s.control.halted = false) :
    takePfail s = dropWord .powerFail s.powerFailed :=
  if_neg (by simp [h])

/-- A granted word goes on (R70). -/
theorem dropWord_granted (x : FaultCause) {s : State} (h : ∀ c, s.host.current = some c → c.phase = .granted) :
    dropWord x s = s := by
  unfold dropWord
  split
  · rename_i c hc
    exact if_pos (h c hc)
  · rfl

/-- A word held or waiting is answered (R70, R71). -/
theorem dropWord_waits (x : FaultCause) {c : HostAccess} {s : State} (hc : s.host.current = some c) (hw : c.waits) :
    dropWord x s = answerWord (.fault x) s := by
  simp only [dropWord, hc]
  refine if_neg fun hg => ?_
  rcases hw with h | h <;> exact nomatch hg.symm.trans h

/-- Settles O6: the release, the assertion that answers no word, and the one that does. -/
theorem pfailHaltsThePart : Obligations.PfailHaltsThePart := by
  intro s hr
  refine ⟨fun hp => exec_pfailRelease hr hp, fun hp hcase => ?_, fun c hp hh hc hw _ hs => ?_⟩
  · rw [exec_pfailAssert hr hp]
    cases hh : s.control.halted with
    | true => exact congrArg Host.Outcome.next (takePfail_of_halted hh)
    | false =>
      have hgranted : ∀ c, s.host.current = some c → c.phase = .granted := hcase.resolve_left (by simp [hh])
      rw [takePfail_of_running hh, dropWord_granted .powerFail (s := s.powerFailed) hgranted]
      rfl
  · let v : State := s.powerFailed
    let y : FaultCause := if c.kind = .write then .skipped else .powerFail
    have hv : v.host.current = some c := hc
    have hy : c.restFails v = some y := by
      by_cases hk : c.kind = .write
      · simp only [y, HostAccess.restFails, hk, true_or, if_true]
      · have hhalted : v.control.halted = true := rfl
        simp only [y, HostAccess.restFails, hk, hs, hhalted, Bool.false_eq_true, or_false, true_or, if_false, if_true]
    have hassert : exec .pfailAssert s = .next (answerWord (.fault .powerFail) v) := by
      rw [exec_pfailAssert hr hp, takePfail_of_running hh, dropWord_waits .powerFail hv hw]
    obtain ⟨rest, hnone, hanswers⟩ := answerWord_fault_answers (x := .powerFail) hv hy
    have hhost := answerWord_halted (.fault .powerFail) hv rfl
    rw [hanswers] at hhost
    obtain ⟨hengine, hregions, hsources⟩ := answerWord_fault_quiet .powerFail v
    obtain ⟨hsettings, hport, hlink, hcontrol, -⟩ := answerWord_frame (.fault .powerFail) v
    refine ⟨_, rest, hassert, hcontrol, hhost, fun hidle => ⟨hnone hidle, ?_⟩,
      answerWord_sets_cause .powerFail .powerFail c v hv rfl, hengine, hsettings, hport, hregions, hsources, hlink⟩
    have hfaults := answerWord_faultAnswered .powerFail c v hv hidle
    rw [hy] at hfaults
    obtain ⟨-, hcaptures, hevents⟩ := hfaults
    have alike : AlikeForOffers (offer { cause := .powerFail } (s.flagged (BitVec.twoPow 25 24))) v := ⟨rfl, rfl, rfl, rfl⟩
    have hthrough := alike.faultedThrough c c .powerFail y rfl rfl rfl rfl rfl
    exact ⟨hcaptures.trans hthrough.captures, hevents.trans hthrough.events⟩

end Sys2Proof.Machine
end

section
/-!
SUPPORT. The capture slots: what an offer makes of each slot and of each flag (R145 to R151).
-/
namespace Sys2Proof.Machine

theorem takes_iff (c : CaptureSlot) (o : Offer) :
    c.takes o = true ↔ c.phase = .active ∧ c.cause = o.cause ∧ (c.filter = none ∨ c.filter = o.region) := by
  simp [CaptureSlot.takes, and_assoc]

/-- A slot captures an offer that it takes, and is left alone by any other (R145). -/
theorem offer_slot (o : Offer) (s : State) (i : Fin Config.captureCount) : (offer o s).captures[i] =
    if s.captures[i].takes o then s.captures[i].capture (captureRecord o s) else s.captures[i] := by
  simp [offer]

/-- What a slot in use holds after a capture (R148, R149). -/
theorem capture_of_on {c : CaptureSlot} (h : c.mode ≠ .off) (r : CaptureRecord) : c.capture r =
    ⟨c.mode, if c.mode = .first then .held else c.phase, c.cause, c.filter, !c.toggle,
      if c.mode = .first then 1 else min 255 (c.count + 1), some r⟩ := by
  unfold CaptureSlot.capture
  cases hm : c.mode with
  | off => exact absurd hm h
  | first | every => simp

/-- The CAPTURE flags stand in the order of the slots (R151, Table 11-6). -/
theorem captureFlag_bit (i : Fin Config.captureCount) : (captureFlag i).bit = 10 + i.val := by
  fin_cases i <;> rfl

theorem captureFlag_only_getLsbD (i : Fin Config.captureCount) (n : Nat) :
    (captureFlag i).only.getLsbD n = decide (10 + i.val = n) := by
  have hi : i.val < 4 := i.isLt
  simp only [Flag.only, BitVec.getLsbD_twoPow, captureFlag_bit]
  by_cases hn : 10 + i.val = n
  · have hlt : n < 25 := by omega
    simp [hn, hlt]
  · simp [hn]

/-- A bit of a set to which a member's set is joined for each member of a list that passes a test. -/
theorem getLsbD_foldl_or {α : Type} {w : Nat} (p : α → Bool) (b : α → BitVec w) (l : List α) (x : BitVec w) (n : Nat) :
    (l.foldl (fun x i => if p i then x ||| b i else x) x).getLsbD n =
      (x.getLsbD n || l.any fun i => p i && (b i).getLsbD n) := by
  induction l generalizing x with
  | nil => simp
  | cons i l ih =>
    rw [List.foldl_cons, ih, List.any_cons]
    cases p i <;> simp [Bool.or_assoc]

/-- The flags an offer sets are those of the slots that take it (R151). -/
theorem captureFlags_getLsbD (o : Offer) (s : State) (n : Nat) : (captureFlags o s).getLsbD n = true ↔
    ∃ i : Fin Config.captureCount, s.captures[i].takes o = true ∧ 10 + i.val = n := by
  simp [captureFlags, getLsbD_foldl_or, captureFlag_only_getLsbD]

theorem captureFlags_slot (o : Offer) (s : State) (i : Fin Config.captureCount) :
    (captureFlags o s).getLsbD (10 + i.val) = s.captures[i].takes o := by
  rw [Bool.eq_iff_iff, captureFlags_getLsbD]
  constructor
  · rintro ⟨j, hj, he⟩
    obtain rfl : j = i := Fin.ext (by omega)
    exact hj
  · exact fun hi => ⟨i, hi, rfl⟩

/-- An offer sets CAPTURE flags alone (R151). -/
theorem captureFlags_elsewhere (o : Offer) (s : State) {n : Nat} (hn : n < 10 ∨ 13 < n) :
    (captureFlags o s).getLsbD n = false := by
  rw [← Bool.not_eq_true, captureFlags_getLsbD]
  rintro ⟨i, -, hi⟩
  have hlt : i.val < 4 := i.isLt
  omega

/-- A flag after an offer: set before, or a CAPTURE flag that the offer sets (R151, R157). -/
theorem offer_flag (o : Offer) (s : State) (n : Nat) : (offer o s).events.flags.getLsbD n =
    (s.events.flags.getLsbD n || (captureFlags o s).getLsbD n) := BitVec.getLsbD_or

/-- The fixed fields of the record an offer makes, LAPSED shown while ARMED alone (R146). -/
theorem captureRecord_eq (o : Offer) (s : State) : captureRecord o s = ⟨o.cause, s.sources.stamp, s.engine.state,
    decide (s.engine.state = .armed ∧ s.engine.journal.lapsed = true), s.engine.journal.fill,
    s.engine.journal.nextSequence, s.engine.journal.epoch, o.word, o.writeData, o.region, o.faultCause, o.sources⟩ := by
  simp [captureRecord, Engine.showsLapsed, Bool.beq_eq_decide_eq]

end Sys2Proof.Machine
end

section
/-!
PROOFS. An offer is captured by the slots that take it, and CAPTURE_SET starts a slot afresh (R145 to R152, R184).
-/
namespace Sys2Proof.Machine

/-- Settles O26: each slot by whether it takes the offer, each flag by whose it is. -/
theorem offerIsCapturedByTheSlotsThatTakeIt : Obligations.OfferIsCapturedByTheSlotsThatTakeIt := by
  intro o s i r c t
  have hslot : t.captures[i] = if c.takes o then c.capture r else c := by
    rw [offer_slot, captureRecord_eq]
  have hflag : t.events.flags.getLsbD (10 + i.val) = (s.events.flags.getLsbD (10 + i.val) || c.takes o) := by
    rw [offer_flag, captureFlags_slot]
  refine ⟨fun ⟨hactive, hcause, hfilter, hon⟩ => ?_, fun hnot => ?_, fun n hn => ?_, rfl, rfl⟩
  · have htakes : c.takes o = true := (takes_iff c o).2 ⟨hactive, hcause, hfilter⟩
    rw [hslot, hflag, if_pos htakes, capture_of_on hon, hactive, htakes, Bool.or_true]
    exact ⟨rfl, rfl⟩
  · have htakes : c.takes o = false := Bool.eq_false_iff.2 fun h => hnot ((takes_iff c o).1 h)
    rw [hslot, hflag, htakes, Bool.or_false]
    exact ⟨rfl, rfl⟩
  · rw [offer_flag, captureFlags_elsewhere o s hn, Bool.or_false]

/-! ## CAPTURE_SET (R152, R184) -/

/-- A code above 2 names no capture mode (R152, Table 11-5). -/
theorem decodeCaptureMode_beyond : ∀ {n : Nat}, 2 < n → decodeCaptureMode n = none
  | _ + 3, _ => rfl

/-- A code above 7 names no capture cause (R152, Table 11-5). -/
theorem decodeCaptureCause_beyond : ∀ {n : Nat}, 7 < n → decodeCaptureCause n = none
  | _ + 8, _ => rfl

theorem decodeCaptureMode_code (m : CaptureMode) : decodeCaptureMode (BitVec.ofNat 8 m.code).toNat = some m := by
  cases m <;> rfl

theorem decodeCaptureCause_code (c : CaptureCause) : decodeCaptureCause (BitVec.ofNat 8 c.code).toNat = some c := by
  cases c <;> rfl

theorem decodeFilter_code (f : Option (Fin Config.regionCount)) : decodeFilter (filterCode f) = some f := by
  cases f with
  | none => rfl
  | some i =>
    have hlt : i.val < 12 := i.isLt
    have hany : BitVec.ofNat 8 i.val ≠ 0xFF := by bv_omega
    simp only [decodeFilter, filterCode, if_neg hany, decodeRegion_code, Option.map_some]

/-- A filter that is neither ANY nor a region index names nothing (R152). -/
theorem decodeFilter_beyond {b : Byte} (h : 11 < b.toNat) (hany : b.toNat ≠ 255) : decodeFilter b = none := by
  rw [decodeFilter, if_neg fun hb => hany (by rw [hb]; rfl), decodeRegion_beyond h, Option.map_none]

/-- The causes a filter naming a region goes with (R152). -/
theorem filterAllowed_iff (c : CaptureCause) (f : Option (Fin Config.regionCount)) : filterAllowed c f = true ↔
    f.isNone = true ∨ c = .compare ∨ c = .lockedWrite ∨ c = .fault := by
  cases c <;> simp [filterAllowed]

/-- The setting that four codes ask for (R152). -/
theorem captureSetting_codes (i : Fin Config.captureCount) (m : CaptureMode) (c : CaptureCause)
    (f : Option (Fin Config.regionCount)) :
    captureSetting (BitVec.ofNat 8 i.val) (BitVec.ofNat 8 m.code) (BitVec.ofNat 8 c.code) (filterCode f) =
      if filterAllowed c f then some (i, freshSlot m c f) else none := by
  simp only [captureSetting, decodeCaptureSlot_code, decodeCaptureMode_code, decodeCaptureCause_code, decodeFilter_code,
    Option.bind_eq_bind, Option.bind_some]

/-- An argument out of its range asks for nothing (R184). -/
theorem captureSetting_beyond {slot mode cause filter : Byte}
    (h : 3 < slot.toNat ∨ 2 < mode.toNat ∨ 7 < cause.toNat ∨ 11 < filter.toNat ∧ filter.toNat ≠ 255) :
    captureSetting slot mode cause filter = none := by
  obtain h | h | h | ⟨h, hany⟩ := h
  · simp [captureSetting, decodeCaptureSlot_beyond h]
  · simp [captureSetting, decodeCaptureMode_beyond h]
  · simp [captureSetting, decodeCaptureCause_beyond h]
  · simp [captureSetting, decodeFilter_beyond h hany]

/-- Settles O23: the setting asked for, given to its slot, or none. -/
theorem captureSetStartsTheSlot : Obligations.CaptureSetStartsTheSlot := by
  intro s h hrun
  have hanswer : ∀ {slot mode cause filter : Byte} {x : Status} {t : State},
      judgeCaptureSet slot mode cause filter s = (answerOnly x, t) → t.link = s.link →
      exec (.captureSet slot mode cause filter) s = .next (t.answered x []) := fun hj hl =>
    exec_of_judgement h rfl rfl ((unlessHalted_of_running hrun _).trans hj) hl
  refine ⟨fun i m c f => ?_, fun slot mode cause filter hbad => ?_⟩
  · simp only [← filterAllowed_iff]
    split
    · rename_i hf
      exact hanswer (by rw [judgeCaptureSet, captureSetting_codes, if_pos hf]; rfl) rfl
    · rename_i hf
      exact hanswer (by rw [judgeCaptureSet, captureSetting_codes, if_neg hf]; rfl) rfl
  · exact hanswer (by rw [judgeCaptureSet, captureSetting_beyond hbad]; rfl) rfl

end Sys2Proof.Machine
end

section
/-!
SUPPORT. Which changes keep the configuration items in range and the capture slots in agreement, and that the shared operations
and the host port's are such changes (Tables 8-1 and 10-5, R148, R149).
-/
namespace Sys2Proof.Machine

/-! ## What keeps the conditions -/

/-- The change keeps the configuration items in range and the capture slots in agreement. -/
structure ItemsKept (s t : State) : Prop where
  settings : SettingsOk s → SettingsOk t
  captures : CapturesOk s → CapturesOk t

theorem ItemsKept.refl (s : State) : ItemsKept s s := ⟨id, id⟩

theorem ItemsKept.trans {s t u : State} (h : ItemsKept s t) (k : ItemsKept t u) : ItemsKept s u :=
  ⟨k.settings ∘ h.settings, k.captures ∘ h.captures⟩

/-- A change that leaves the configuration items and the capture slots alone. -/
theorem ItemsKept.of_eq {s t : State} (h : t.settings = s.settings ∧ t.captures = s.captures) : ItemsKept s t := by
  obtain ⟨hsettings, hcaptures⟩ := h
  exact ⟨by simp only [SettingsOk, hsettings, imp_self], by simp only [CapturesOk, hcaptures, imp_self]⟩

/-- A change that keeps the conditions, made after one that leaves items and slots alone. -/
theorem ItemsKept.after {s t u : State} (k : ItemsKept t u) (h : t.settings = s.settings ∧ t.captures = s.captures) :
    ItemsKept s u := (ItemsKept.of_eq h).trans k

/-! ## A capture slot (Table 8-1) -/

/-- A capture keeps an ACTIVE slot in agreement: FIRST becomes HELD with count 1, EVERY counts up to 255 (R148, R149). -/
theorem CaptureSlot.Ok.capture {c : CaptureSlot} (h : c.Ok) (ha : c.phase = .active) (r : CaptureRecord) :
    (c.capture r).Ok := by
  obtain ⟨hoff, -, -, -, -, -⟩ := h
  have hon : c.mode ≠ .off := fun hm => nomatch ha.symm.trans (hoff.1 hm)
  rw [capture_of_on hon, CaptureSlot.Ok]
  cases hm : c.mode with
  | off => exact absurd hm hon
  | first => simp
  | every => simp [ha]

/-- A slot just set is in agreement: OFF in mode OFF, else ACTIVE with nothing captured (R152). -/
theorem freshSlot_ok (m : CaptureMode) (c : CaptureCause) (f : Option (Fin Config.regionCount)) : (freshSlot m c f).Ok := by
  cases m <;> simp [freshSlot, CaptureSlot.Ok]

theorem coldCapture_ok : coldCapture.Ok := by simp [coldCapture, CaptureSlot.Ok]

/-! ## Offers and marks -/

/-- An offer is captured by ACTIVE slots alone (R145). -/
theorem offer_itemsKept (o : Offer) (s : State) : ItemsKept s (offer o s) := by
  refine ⟨id, fun h i => ?_⟩
  rw [offer_slot]
  split
  · rename_i ht
    obtain ⟨hactive, -, -⟩ := (takes_iff _ o).1 ht
    exact (h i).capture hactive _
  · exact h i

theorem requestMark_itemsKept (x : Source) (s : State) : ItemsKept s (requestMark x s) := .of_eq (by simp)

theorem filteredChange_itemsKept (s : State) : ItemsKept s (filteredChange s) := by
  unfold filteredChange
  split
  · exact ((offer_itemsKept _ _).trans (requestMark_itemsKept .line _)).after ⟨rfl, rfl⟩
  · exact .of_eq ⟨rfl, rfl⟩

theorem changeIfDue_itemsKept (s : State) : ItemsKept s (changeIfDue s) := by
  unfold changeIfDue
  split
  · exact filteredChange_itemsKept s
  · exact ItemsKept.refl s

theorem compareMatch_itemsKept (i : Fin Config.regionCount) (s : State) : ItemsKept s (compareMatch i s) :=
  (offer_itemsKept _ _).after ⟨rfl, rfl⟩

/-- A match's action and the ring after it (R38, R39). -/
theorem compareAct_ringReturn_itemsKept (i : Fin Config.regionCount) (s : State) :
    ItemsKept s (ringReturn i (compareAct i s)) := .of_eq (by simp)

theorem countEntry_itemsKept (i : Fin Config.regionCount) (s : State) : ItemsKept s (countEntry i s) := by
  unfold countEntry
  split
  · exact ((compareMatch_itemsKept i _).trans (compareAct_ringReturn_itemsKept i _)).after ⟨rfl, rfl⟩
  · exact .of_eq ⟨rfl, rfl⟩

theorem countFor_itemsKept (x : CountTarget) (g : Option Resolution) (s : State) : ItemsKept s (countFor x g s) := by
  unfold countFor
  split
  · split
    · exact countEntry_itemsKept _ s
    · exact ItemsKept.refl s
  · exact ItemsKept.refl s

theorem checkWatermark_itemsKept (s : State) : ItemsKept s (checkWatermark s) := by
  unfold checkWatermark
  split
  · exact (offer_itemsKept _ _).after ⟨rfl, rfl⟩
  · exact ItemsKept.refl s

theorem appendMark_itemsKept (x : SourceSet) (w : Word) (s : State) : ItemsKept s (appendMark x w s) :=
  (checkWatermark_itemsKept _).after ⟨rfl, rfl⟩

/-! ## The host port -/

theorem offerLocked_itemsKept (c : HostAccess) (x : FaultCause) (s : State) : ItemsKept s (offerLocked c x s) := by
  unfold offerLocked
  split
  · exact offer_itemsKept _ s
  · exact ItemsKept.refl s

theorem reportJournalWrite_itemsKept (c : HostAccess) (s : State) : ItemsKept s (reportJournalWrite c s) := .of_eq (by simp)

theorem deliver_itemsKept (a : WordResult) (c : HostAccess) (s : State) : ItemsKept s (deliver a c s) := by
  cases a with
  | done d =>
    exact ((countFor_itemsKept _ _ _).trans (reportJournalWrite_itemsKept c _)).after ⟨rfl, rfl⟩
  | fault x =>
    exact ((offerLocked_itemsKept c x _).after (by simp)).trans (offer_itemsKept _ _)

theorem nextWord_itemsKept (s : State) : ItemsKept s (nextWord s) := .of_eq (by simp)

theorem takeWords_itemsKept (n : Nat) (s : State) : ItemsKept s (takeWords n s) := by
  induction n generalizing s with
  | zero => exact ItemsKept.refl s
  | succ n ih =>
    rw [takeWords]
    split
    · split
      · exact (ih _).after ⟨rfl, rfl⟩
      · exact ItemsKept.refl s
    · split
      · exact (ih _).after ⟨rfl, rfl⟩
      · split
        · exact (deliver_itemsKept _ _ s).trans ((nextWord_itemsKept _).trans (ih _))
        · exact .of_eq (by simp)

theorem answerWord_itemsKept (a : WordResult) (s : State) : ItemsKept s (answerWord a s) := by
  unfold answerWord
  split
  · exact (deliver_itemsKept a _ s).trans ((nextWord_itemsKept _).trans (takeWords_itemsKept _ _))
  · exact ItemsKept.refl s

theorem endTenancy_itemsKept (s : State) : ItemsKept s (endTenancy s) := .of_eq ⟨rfl, rfl⟩

theorem finishWord_itemsKept (a : WordResult) (s : State) : ItemsKept s (finishWord a s) :=
  (endTenancy_itemsKept s).trans (answerWord_itemsKept a _)

theorem expireIfReached_itemsKept (s : State) : ItemsKept s (expireIfReached s) := by
  unfold expireIfReached
  split
  · split
    · exact answerWord_itemsKept _ s
    · exact ItemsKept.refl s
  · exact ItemsKept.refl s

theorem holdWord_itemsKept (s : State) : ItemsKept s (holdWord s) := by
  unfold holdWord
  split
  · exact (expireIfReached_itemsKept _).after ⟨rfl, rfl⟩
  · exact endTenancy_itemsKept s

theorem dropWord_itemsKept (x : FaultCause) (s : State) : ItemsKept s (dropWord x s) := by
  unfold dropWord
  split
  · split
    · exact ItemsKept.refl s
    · exact answerWord_itemsKept _ s
  · exact ItemsKept.refl s

theorem presentRequest_itemsKept (r : HostRequest) (s : State) : ItemsKept s (presentRequest r s) := by
  unfold presentRequest takeIfIdle
  split
  · exact (takeWords_itemsKept _ _).after ⟨rfl, rfl⟩
  · exact .of_eq ⟨rfl, rfl⟩

theorem wakeAfterRecovery_itemsKept (s : State) : ItemsKept s (wakeAfterRecovery s) := by
  unfold wakeAfterRecovery
  split
  · split
    · split
      · exact .of_eq ⟨rfl, rfl⟩
      · exact answerWord_itemsKept _ s
    · exact ItemsKept.refl s
  · exact ItemsKept.refl s

theorem endRecovery_itemsKept (s : State) : ItemsKept s (endRecovery s) :=
  (wakeAfterRecovery_itemsKept _).after ⟨rfl, rfl⟩

/-! ## A granted word (Table 3-1) -/

theorem withWord_itemsKept {f : HostAccess → State → State} {s : State} (hf : ∀ c, ItemsKept s (f c s)) :
    ItemsKept s (withWord f s) := by
  unfold withWord
  split
  · exact hf _
  · exact endTenancy_itemsKept s

theorem forwardWrite_itemsKept (c : HostAccess) (s : State) : ItemsKept s (forwardWrite c s) := .of_eq ⟨rfl, rfl⟩

theorem releaseOrLose_itemsKept (s : State) : ItemsKept s (releaseOrLose s) := by
  unfold releaseOrLose
  split <;> exact .of_eq (by simp)

theorem roomAgain_itemsKept (c : HostAccess) (s : State) : ItemsKept s (roomAgain c s) := by
  unfold roomAgain
  split
  · exact .of_eq ⟨rfl, rfl⟩
  · split
    · exact holdWord_itemsKept s
    · exact releaseOrLose_itemsKept s

theorem applyPolicy_itemsKept (s : State) : ItemsKept s (applyPolicy s) := by
  unfold applyPolicy
  split
  · exact holdWord_itemsKept s
  · exact finishWord_itemsKept _ s
  · exact releaseOrLose_itemsKept s
  · exact .of_eq (by simp)

theorem journaledWrite_itemsKept (c : HostAccess) (s : State) : ItemsKept s (journaledWrite c s) := by
  unfold journaledWrite
  split
  · exact forwardWrite_itemsKept c s
  · split
    · exact .of_eq ⟨rfl, rfl⟩
    · exact applyPolicy_itemsKept s

theorem treatJournalWrite_itemsKept (c : HostAccess) (s : State) : ItemsKept s (treatJournalWrite c s) := by
  unfold treatJournalWrite
  split
  · split
    · exact forwardWrite_itemsKept c s
    · exact journaledWrite_itemsKept c s
  · split
    · exact forwardWrite_itemsKept c s
    · exact .of_eq (by simp)
  · exact forwardWrite_itemsKept c s
  · exact forwardWrite_itemsKept c s
  · exact holdWord_itemsKept s
  · exact holdWord_itemsKept s
  · exact finishWord_itemsKept _ s
  · exact finishWord_itemsKept _ s

theorem treatWord_itemsKept (m : Mode) (c : HostAccess) (s : State) : ItemsKept s (treatWord m c s) := by
  unfold treatWord
  split
  · unfold treatRead
    split
    · exact holdWord_itemsKept s
    · exact .of_eq ⟨rfl, rfl⟩
  · unfold treatWrite
    split
    · exact forwardWrite_itemsKept c s
    · exact treatJournalWrite_itemsKept c s
    · exact finishWord_itemsKept _ s

theorem grantWord_itemsKept (s : State) : ItemsKept s (grantWord s) := by
  unfold grantWord
  split
  · exact (treatWord_itemsKept _ _ _).after ⟨rfl, rfl⟩
  · exact ItemsKept.refl s

/-- An UNDO entry written: its count, the watermark, and the host's write issued (R14, R59). -/
theorem undoAppended_itemsKept (c : HostAccess) (s : State) : ItemsKept s (undoAppended c s) :=
  ((countFor_itemsKept .undo c.grant _).trans ((checkWatermark_itemsKept _).trans (forwardWrite_itemsKept c _))).after
    ⟨rfl, rfl⟩

end Sys2Proof.Machine
end

section
/-!
SUPPORT. The engine's tenancies, at their grants and as memory answers them, keep the configuration items in range and the
capture slots in agreement (Tables 8-1 and 10-5).
-/
namespace Sys2Proof.Machine

/-! ## Marks and arming -/

theorem setFlag_itemsKept (f : Flag) (s : State) : ItemsKept s (setFlag f s) := .of_eq (by simp)

theorem endExclusive_itemsKept (s : State) : ItemsKept s (endExclusive s) := .of_eq (by simp)

/-- A release recorded by its anchor write (R17). -/
theorem released_itemsKept (n : Nat) (s : State) : ItemsKept s (releaseEpochs n (anchorWritten s)) := .of_eq (by simp)

theorem anchorFailure_itemsKept (s : State) : ItemsKept s (anchorFailure s) := .of_eq (by simp)

theorem markFinish_itemsKept (x : SourceSet) (s : State) : ItemsKept s (markFinish x s) :=
  (offer_itemsKept _ _).after ⟨rfl, rfl⟩

theorem markLimitStep_itemsKept (x : SourceSet) (k : Nat) (s : State) : ItemsKept s (markLimitStep x k s) := by
  unfold markLimitStep
  split
  · exact .of_eq (by simp)
  · exact markFinish_itemsKept x s

theorem markAfterAppend_itemsKept (x : SourceSet) (k : Nat) (s : State) : ItemsKept s (markAfterAppend x k s) := by
  unfold markAfterAppend
  split
  · exact .of_eq (by simp)
  · exact markLimitStep_itemsKept x k s

theorem armRelease_itemsKept (n : Nat) (s : State) : ItemsKept s (armRelease n s) := by
  unfold armRelease
  split
  · exact ItemsKept.refl s
  · exact .of_eq (by simp)

theorem armTimer_itemsKept (s : State) : ItemsKept s (armTimer s) := by
  unfold armTimer
  split
  · exact .of_eq ⟨rfl, rfl⟩
  · exact .of_eq ⟨rfl, rfl⟩
  · exact ItemsKept.refl s

/-- The engine becomes ARMED, and offers the mark taken (R88). -/
theorem armAnchorDone_itemsKept (action : RestartAction) (count : Nat) (s : State) :
    ItemsKept s (armAnchorDone action count s) := by
  have hrelease : ItemsKept s (armRelease count (anchorWritten (endTenancy s))) :=
    (armRelease_itemsKept count _).after ⟨rfl, rfl⟩
  have hoffer : ∀ u, ItemsKept u (offer { cause := .markTaken, sources := some Source.arm.only }
      (setFlag .markTaken (install (becomeArmed action u)))) := fun u => (offer_itemsKept _ _).after ⟨rfl, rfl⟩
  exact hrelease.trans ((hoffer _).trans ((armTimer_itemsKept _).trans (endExclusive_itemsKept _)))

/-! ## Rollback and recovery -/

theorem rollbackAnchorDone_itemsKept (s : State) : ItemsKept s (rollbackAnchorDone s) := by
  unfold rollbackAnchorDone
  split <;> exact .of_eq ⟨rfl, rfl⟩

theorem rollbackFails_itemsKept (s : State) : ItemsKept s (rollbackFails s) := by
  unfold rollbackFails
  split
  · exact .of_eq (by simp)
  · exact endTenancy_itemsKept s

theorem restoreComplete_itemsKept (link : Word) (s : State) : ItemsKept s (restoreComplete link s) := by
  unfold restoreComplete
  split <;> exact .of_eq ⟨rfl, rfl⟩

theorem restoreReadDone_itemsKept (ws : List Word) (s : State) : ItemsKept s (restoreReadDone ws s) := by
  have hdamaged : ItemsKept s (rollbackFails (setFlag .journalDamaged s)) := (rollbackFails_itemsKept _).after ⟨rfl, rfl⟩
  unfold restoreReadDone
  split
  · split
    · unfold restoreAction
      split
      · exact .of_eq (by simp)
      · exact restoreComplete_itemsKept _ s
    · exact hdamaged
  · exact hdamaged
  · exact endTenancy_itemsKept s

theorem settleVoidDone_itemsKept (s : State) : ItemsKept s (settleVoidDone s) := by
  unfold settleVoidDone
  split <;> exact .of_eq ⟨rfl, rfl⟩

theorem wakeUnlessRecovery_itemsKept (origin : RollbackOrigin) (s : State) :
    ItemsKept s (wakeUnlessRecovery origin s) := by
  cases origin with
  | armed | disarmed => exact .of_eq (by simp [wakeUnlessRecovery])
  | recovery => exact ItemsKept.refl s

/-- A rollback's end, its ROLLBACK_END offered first (R102, R104). -/
theorem endRollback_itemsKept (origin : RollbackOrigin) (o : Offer) (s : State) :
    ItemsKept s (endRollback origin (offer o s)) := by
  refine (offer_itemsKept o s).trans ?_
  cases origin with
  | armed | disarmed => exact endExclusive_itemsKept _
  | recovery => exact endRecovery_itemsKept _

theorem rollbackBroken_itemsKept (s : State) : ItemsKept s (rollbackBroken s) := by
  unfold rollbackBroken
  split
  · exact ((wakeUnlessRecovery_itemsKept _ _).trans (endRollback_itemsKept _ _ _)).after ⟨rfl, rfl⟩
  · exact endTenancy_itemsKept s

theorem settleAnchorDone_itemsKept (s : State) : ItemsKept s (settleAnchorDone s) := by
  unfold settleAnchorDone
  split
  · refine ((wakeUnlessRecovery_itemsKept _ _).trans ((setFlag_itemsKept .rollbackDone _).trans
      (endRollback_itemsKept _ _ _))).after ?_
    simp
  · exact endTenancy_itemsKept s

theorem recoveryBroken_itemsKept (s : State) : ItemsKept s (recoveryBroken s) := (endRecovery_itemsKept _).after ⟨rfl, rfl⟩

theorem recoveryDisarmed_itemsKept (s : State) : ItemsKept s (recoveryDisarmed s) :=
  (endRecovery_itemsKept _).after ⟨rfl, rfl⟩

/-- What the current anchor leads to after the scan (R110, R139). -/
theorem recoveryOutcome_itemsKept (f : AnchorCopy) (s : State) : ItemsKept s (recoveryOutcome f s) := by
  unfold recoveryOutcome
  split
  · exact recoveryDisarmed_itemsKept s
  · exact recoveryDisarmed_itemsKept s
  · unfold revertToNewest
    split
    · exact .of_eq ⟨rfl, rfl⟩
    · exact recoveryBroken_itemsKept s
  · unfold resumeRolling
    split
    · exact .of_eq ⟨rfl, rfl⟩
    · exact recoveryBroken_itemsKept s
  · exact recoveryDisarmed_itemsKept s
  · exact recoveryBroken_itemsKept s

theorem scanComplete_itemsKept (f : AnchorCopy) (next : Word) (s : State) : ItemsKept s (scanComplete f next s) :=
  (recoveryOutcome_itemsKept f _).after ⟨rfl, rfl⟩

theorem scanAccept_itemsKept (f : AnchorCopy) (slot : Nat) (e : Entry) (s : State) : ItemsKept s (scanAccept f slot e s) := by
  unfold scanAccept
  split
  · exact .of_eq ⟨rfl, rfl⟩
  · exact (scanComplete_itemsKept f _ _).after ⟨rfl, rfl⟩

theorem scanHead_itemsKept (f : AnchorCopy) (slot : Nat) (ws : List Word) (s : State) :
    ItemsKept s (scanHead f slot ws s) := by
  unfold scanHead
  split
  · split
    · exact scanAccept_itemsKept f slot _ s
    · exact recoveryBroken_itemsKept s
  · exact recoveryBroken_itemsKept s

theorem scanNext_itemsKept (f : AnchorCopy) (slot : Nat) (ws : List Word) (s : State) :
    ItemsKept s (scanNext f slot ws s) := by
  unfold scanNext
  split
  · split
    · exact scanAccept_itemsKept f slot _ s
    · exact scanComplete_itemsKept f _ s
  · exact scanComplete_itemsKept f _ s

theorem scanDone_itemsKept (f : AnchorCopy) (slot : Nat) (ws : List Word) (s : State) :
    ItemsKept s (scanDone f slot ws s) := by
  unfold scanDone
  split
  · exact (endTenancy_itemsKept s).trans (scanHead_itemsKept f slot ws _)
  · exact (endTenancy_itemsKept s).trans (scanNext_itemsKept f slot ws _)

theorem recoveryDecision_itemsKept (f : AnchorCopy) (s : State) : ItemsKept s (recoveryDecision f s) := by
  unfold recoveryDecision
  split
  · exact recoveryBroken_itemsKept s
  · exact (endRecovery_itemsKept _).after ⟨rfl, rfl⟩
  all_goals exact .of_eq ⟨rfl, rfl⟩

/-- Both copies read: the choice and what it leads to (R135, R136). -/
theorem copyBRead_itemsKept (a b : CopyReading) (s : State) : ItemsKept s (copyBRead a b s) := by
  unfold copyBRead anchorsRead
  split
  · exact (recoveryDecision_itemsKept _ _).after ⟨rfl, rfl⟩
  · exact (recoveryBroken_itemsKept _).after ⟨rfl, rfl⟩
  · exact (endRecovery_itemsKept _).after ⟨rfl, rfl⟩

/-! ## Memory's answers -/

/-- A step whose accesses were all answered OK keeps the conditions. -/
theorem completeWork_itemsKept (w : Work) (ws : List Word) (s : State) : ItemsKept s (completeWork w ws s) := by
  cases w with
  | hostRead | hostWrite => exact finishWord_itemsKept _ s
  | hostFirstWrite | hostLose => exact (withWord_itemsKept fun c => forwardWrite_itemsKept c _).after (by simp [lapse])
  | hostRelease => exact (released_itemsKept 1 s).trans (withWord_itemsKept fun c => roomAgain_itemsKept c _)
  | hostOldValue => exact withWord_itemsKept fun c => .of_eq (by simp [writeUndo])
  | hostUndo => exact withWord_itemsKept fun c => undoAppended_itemsKept c s
  | markRoom sources limit => exact (released_itemsKept 1 s).trans (.of_eq ⟨rfl, rfl⟩)
  | markAppend sources limit stamp => exact (appendMark_itemsKept _ _ s).trans (markAfterAppend_itemsKept _ _ _)
  | markLapseEnd sources limit => exact (markLimitStep_itemsKept sources limit _).after ⟨rfl, rfl⟩
  | markLimit sources count => exact (released_itemsKept count s).trans (markFinish_itemsKept sources _)
  | armRoom action limit => exact (released_itemsKept 1 s).trans (.of_eq ⟨rfl, rfl⟩)
  | armAppend action limit stamp => exact (appendMark_itemsKept _ _ s).trans (.of_eq ⟨rfl, rfl⟩)
  | armAnchor action count => exact armAnchorDone_itemsKept action count s
  | disarm fresh => exact (endExclusive_itemsKept _).after (by simp)
  | release count => exact .of_eq (by simp [completeWork, releaseJobDone])
  | discard => exact (endExclusive_itemsKept _).after (by simp)
  | rollbackAnchor => exact rollbackAnchorDone_itemsKept s
  | restoreRead => exact restoreReadDone_itemsKept ws s
  | restoreWrite link => exact restoreComplete_itemsKept link s
  | settleVoid => exact settleVoidDone_itemsKept s
  | settleAnchor => exact settleAnchorDone_itemsKept s
  | brokenAnchor => exact (rollbackBroken_itemsKept _).after ⟨rfl, rfl⟩
  | clearFirst | clearSecond | clearSlot | readCopyA | peek => exact .of_eq ⟨rfl, rfl⟩
  | formatAnchor => exact (endExclusive_itemsKept _).after ⟨rfl, rfl⟩
  | readCopyB a => exact copyBRead_itemsKept a _ s
  | scan anchor slot => exact scanDone_itemsKept anchor slot ws s

theorem formatFailed_itemsKept (s : State) : ItemsKept s (formatFailed s) := (endExclusive_itemsKept _).after ⟨rfl, rfl⟩

/-- A step failed by an access answered ERROR keeps the conditions. -/
theorem failWork_itemsKept (w : Work) (s : State) : ItemsKept s (failWork w s) := by
  have hbroken := anchorFailure_itemsKept s
  cases w with
  | hostRead | hostWrite | hostOldValue | hostUndo => exact finishWord_itemsKept _ s
  | hostFirstWrite | hostRelease | hostLose => exact hbroken.trans (finishWord_itemsKept _ _)
  | markRoom | markLapseEnd | markLimit | release => exact hbroken.trans (.of_eq ⟨rfl, rfl⟩)
  | armRoom | armAnchor | disarm | discard => exact hbroken.trans ((endExclusive_itemsKept _).after ⟨rfl, rfl⟩)
  | armAppend => exact (endExclusive_itemsKept _).after ⟨rfl, rfl⟩
  | rollbackAnchor | settleAnchor | restoreRead | restoreWrite | settleVoid =>
    exact (rollbackFails_itemsKept _).after ⟨rfl, rfl⟩
  | brokenAnchor => exact (rollbackBroken_itemsKept _).after ⟨rfl, rfl⟩
  | clearFirst | clearSecond | clearSlot => exact formatFailed_itemsKept s
  | formatAnchor => exact (formatFailed_itemsKept _).after ⟨rfl, rfl⟩
  | markAppend | readCopyA | peek => exact .of_eq ⟨rfl, rfl⟩
  | readCopyB a => exact (copyBRead_itemsKept a .unreadable _).after ⟨rfl, rfl⟩
  | scan => exact (recoveryBroken_itemsKept _).after ⟨rfl, rfl⟩

theorem exec_memoryAnswer_itemsKept {ok : Bool} {d : Word} {s t : State} (h : exec (.memoryAnswer ok d) s = .next t) :
    ItemsKept s t := by
  rw [exec_memoryAnswer, execMemoryAnswer, Host.Outcome.next.injEq] at h
  subst h
  split
  · split
    · unfold accessAnswered
      split
      · exact .of_eq ⟨rfl, rfl⟩
      · exact completeWork_itemsKept _ _ s
      · exact .of_eq ⟨rfl, rfl⟩
      · exact completeWork_itemsKept _ _ s
    · exact failWork_itemsKept _ s
  · exact ItemsKept.refl s

/-! ## Grants to the engine (R115, R118) -/

/-- An engine tenancy's beginning that keeps the conditions keeps them whether it is granted or not. -/
theorem onGrant_itemsKept {r : Request} {work : State → State} {s t : State} (h : onGrant r work s = .next t)
    (hw : ∀ u, ItemsKept u (work u)) : ItemsKept s t := by
  rw [onGrant, Host.Outcome.next.injEq] at h
  subst h
  split
  · exact (hw _).after ⟨rfl, rfl⟩
  · exact ItemsKept.refl s

theorem markBegin_itemsKept (x : SourceSet) (k : Nat) (s : State) : ItemsKept s (markBegin x k s) := by
  unfold markBegin
  split <;> exact .of_eq (by simp [markAppendStep])

theorem armBegin_itemsKept (action : RestartAction) (k : Nat) (s : State) : ItemsKept s (armBegin action k s) := by
  unfold armBegin
  split <;> exact .of_eq (by simp [armAppendStep])

theorem execMarkTake_itemsKept {s t : State} (h : execMarkTake s = .next t) : ItemsKept s t := by
  unfold execMarkTake at h
  refine onGrant_itemsKept h fun u => ?_
  split
  · exact (markBegin_itemsKept _ _ _).after (by simp)
  · exact .of_eq (by simp)

theorem execArming_itemsKept {s t : State} (h : execArming s = .next t) : ItemsKept s t := by
  unfold execArming at h
  refine onGrant_itemsKept h fun u => ?_
  split
  · exact (endExclusive_itemsKept _).after ⟨rfl, rfl⟩
  · exact armBegin_itemsKept _ _ u

theorem execDisarming_itemsKept {s t : State} (h : execDisarming s = .next t) : ItemsKept s t := by
  unfold execDisarming at h
  refine onGrant_itemsKept h fun u => ?_
  split
  · exact endExclusive_itemsKept u
  · split <;> exact .of_eq (by simp)

theorem execReleaseJob_itemsKept {s t : State} (h : execReleaseJob s = .next t) : ItemsKept s t := by
  unfold execReleaseJob at h
  refine onGrant_itemsKept h fun u => ?_
  split
  · exact .of_eq (by simp)
  · split <;> exact .of_eq (by simp)

theorem execDiscardTenancy_itemsKept {s t : State} (h : execDiscardTenancy s = .next t) : ItemsKept s t := by
  unfold execDiscardTenancy at h
  refine onGrant_itemsKept h fun u => ?_
  split
  · exact endExclusive_itemsKept u
  · split
    · exact (endExclusive_itemsKept _).after ⟨rfl, rfl⟩
    · exact .of_eq (by simp)

theorem execRollbackAnchor_itemsKept {s t : State} (h : execRollbackAnchor s = .next t) : ItemsKept s t := by
  unfold execRollbackAnchor at h
  refine onGrant_itemsKept h fun u => ?_
  split
  · exact .of_eq (by simp [fixRange])
  · exact ItemsKept.refl u

theorem execSettle_itemsKept {s t : State} (h : execSettle s = .next t) : ItemsKept s t := by
  unfold execSettle at h
  refine onGrant_itemsKept h fun u => ?_
  split
  · split <;> exact .of_eq (by simp [settleAnchorStep])
  · exact ItemsKept.refl u

theorem execRecoveryAnchorRead_itemsKept {s t : State} (h : execRecoveryAnchorRead s = .next t) : ItemsKept s t := by
  unfold execRecoveryAnchorRead at h
  refine onGrant_itemsKept h fun u => ?_
  split
  · exact .of_eq ⟨rfl, rfl⟩
  · exact .of_eq ⟨rfl, rfl⟩
  · exact ItemsKept.refl u

theorem execRestoreStep_itemsKept {s t : State} (h : execRestoreStep s = .next t) : ItemsKept s t := by
  unfold execRestoreStep at h
  refine onGrant_itemsKept h fun u => ?_
  split
  · exact .of_eq (by simp)
  · exact ItemsKept.refl u

theorem execScanStep_itemsKept {s t : State} (h : execScanStep s = .next t) : ItemsKept s t := by
  unfold execScanStep at h
  refine onGrant_itemsKept h fun u => ?_
  split
  · exact .of_eq (by simp)
  · exact ItemsKept.refl u

theorem execPeekJob_itemsKept {s t : State} (h : execPeekJob s = .next t) : ItemsKept s t := by
  unfold execPeekJob at h
  exact onGrant_itemsKept h fun u => .of_eq ⟨rfl, rfl⟩

theorem execFormatAnchorClear_itemsKept {s t : State} (h : execFormatAnchorClear s = .next t) : ItemsKept s t := by
  unfold execFormatAnchorClear at h
  exact onGrant_itemsKept h fun u => .of_eq ⟨rfl, rfl⟩

theorem execFormatSlotClear_itemsKept {s t : State} (h : execFormatSlotClear s = .next t) : ItemsKept s t := by
  unfold execFormatSlotClear at h
  exact onGrant_itemsKept h fun u => .of_eq ⟨rfl, rfl⟩

theorem execFormatFinalAnchor_itemsKept {s t : State} (h : execFormatFinalAnchor s = .next t) : ItemsKept s t := by
  unfold execFormatFinalAnchor at h
  exact onGrant_itemsKept h fun u => .of_eq ⟨rfl, rfl⟩

/-- A grant to the engine keeps the conditions. -/
theorem exec_grant_itemsKept {c : Instr} {s t : State} (hc : grantsTenancy c = true) (h : exec c s = .next t) :
    ItemsKept s t := by
  cases c with
  | markTake => exact execMarkTake_itemsKept h
  | arming => exact execArming_itemsKept h
  | disarming => exact execDisarming_itemsKept h
  | releaseJob => exact execReleaseJob_itemsKept h
  | discardTenancy => exact execDiscardTenancy_itemsKept h
  | rollbackAnchor => exact execRollbackAnchor_itemsKept h
  | settle => exact execSettle_itemsKept h
  | recoveryAnchorRead => exact execRecoveryAnchorRead_itemsKept h
  | restoreStep => exact execRestoreStep_itemsKept h
  | scanStep => exact execScanStep_itemsKept h
  | peekJob => exact execPeekJob_itemsKept h
  | formatAnchorClear => exact execFormatAnchorClear_itemsKept h
  | formatSlotClear => exact execFormatSlotClear_itemsKept h
  | formatFinalAnchor => exact execFormatFinalAnchor_itemsKept h
  | _ => cases hc

end Sys2Proof.Machine
end

section
/-!
PROOFS. Every step keeps the configuration items in range and the capture slots in agreement (Tables 8-1 and 10-5, R148, R149).
-/
namespace Sys2Proof.Machine

/-! ## The commands of the link -/

theorem serve_itemsKept {c : Instr} {judge : State → Response × State} {s t : State} (h : serve c judge s = .next t)
    (hj : ItemsKept s (judge s).2) : ItemsKept s t :=
  serve_leaves h (ItemsKept.refl s) hj fun _ _ hu => hu.trans (.of_eq ⟨rfl, rfl⟩)

theorem OnlyReads.itemsKept {s : State} {p : Response × State} (h : OnlyReads s p) : ItemsKept s p.2 := by
  cases h with
  | data bs => exact ItemsKept.refl s
  | refused x => exact ItemsKept.refl s

/-- A number within an item's range (Table 10-5). -/
theorem inRange_eq_some {lo hi n : Nat} {v : Word} (h : inRange lo hi v = some n) : lo ≤ n ∧ n ≤ hi := by
  unfold inRange at h
  split at h
  · rename_i hv
    obtain rfl := Option.some.inj h
    exact hv
  · cases h

/-- Each numeric item is set to a number in its range, and no other item has one (Table 10-5, R176). -/
theorem itemSet_itemsKept {item : Byte} {v : Word} {s t : State} (h : itemSet item v s = some t) : ItemsKept s t := by
  unfold itemSet at h
  split at h
  case h_11 => cases h
  all_goals obtain ⟨n, hn, rfl⟩ := Option.map_eq_some_iff.1 h
  case h_1 | h_4 | h_6 | h_8 | h_10 => exact ⟨id, id⟩
  case h_2 =>
    obtain ⟨-, hle⟩ := inRange_eq_some hn
    exact ⟨fun ⟨_, hrest⟩ => ⟨hle, hrest⟩, id⟩
  case h_3 =>
    obtain ⟨hlo, hhi⟩ := inRange_eq_some hn
    exact ⟨fun ⟨hwatermark, _, _, hrest⟩ => ⟨hwatermark, hlo, hhi, hrest⟩, id⟩
  case h_5 =>
    obtain ⟨-, hle⟩ := inRange_eq_some hn
    have hset : ItemsKept s (s.withSettings { s.settings with holdLimit := n }) :=
      ⟨fun ⟨hwatermark, hlo, hhi, _, hrest⟩ => ⟨hwatermark, hlo, hhi, hle, hrest⟩, id⟩
    exact hset.trans (expireIfReached_itemsKept _)
  case h_7 =>
    obtain ⟨hlo, hhi⟩ := inRange_eq_some hn
    exact ⟨fun ⟨hwatermark, hmin, hmax, hhold, _, _⟩ => ⟨hwatermark, hmin, hmax, hhold, hlo, hhi⟩, id⟩
  case h_9 =>
    have hset : ItemsKept s (s.withSettings { s.settings with lineFilter := n }) := ⟨id, id⟩
    exact hset.trans (changeIfDue_itemsKept _)

theorem judgeSet_itemsKept (item : Byte) (v : Word) (s : State) : ItemsKept s (judgeSet item v s).2 := by
  unfold judgeSet
  split
  · rename_i t ht
    exact itemSet_itemsKept ht
  · exact ItemsKept.refl s

/-- The slot of a setting is one just set (R152). -/
theorem captureSetting_ok {slot mode cause filter : Byte} {i : Fin Config.captureCount} {x : CaptureSlot}
    (h : captureSetting slot mode cause filter = some (i, x)) : x.Ok := by
  simp only [captureSetting, Option.bind_eq_bind, Option.bind_eq_some_iff, Option.ite_none_right_eq_some,
    Option.some.injEq, Prod.mk.injEq] at h
  obtain ⟨-, -, m, -, c, -, f, -, -, -, rfl⟩ := h
  exact freshSlot_ok m c f

/-- CAPTURE_SET leaves a slot in agreement, just set (R152). -/
theorem judgeCaptureSet_itemsKept (slot mode cause filter : Byte) (s : State) :
    ItemsKept s (judgeCaptureSet slot mode cause filter s).2 := by
  unfold judgeCaptureSet
  split
  · rename_i i c hc
    refine ⟨id, fun h j => ?_⟩
    have hslot : c.Ok := captureSetting_ok hc
    simp only [State.withCaptures_captures, Fin.getElem_fin, Vector.getElem_set]
    split
    · exact hslot
    · exact h j
  · exact ItemsKept.refl s

/-- A refusal while other work bars the command, else what the command leaves (R117). -/
theorem itemsKept_unless {s : State} {b : Bool} {x : Status} {p : Response × State} (hp : ItemsKept s p.2) :
    ItemsKept s (if b then refuse x s else p).2 := by
  cases b
  · exact hp
  · exact ItemsKept.refl s

theorem judgeTableWrite_itemsKept (index : Byte) (mask : BitVec 16) (f : TableFields) (s : State) :
    ItemsKept s (judgeTableWrite index mask f s).2 := by
  unfold judgeTableWrite
  split
  · split <;> exact .of_eq ⟨rfl, rfl⟩
  · exact ItemsKept.refl s

theorem judgeInstall_itemsKept (s : State) : ItemsKept s (judgeInstall s).2 := by
  unfold judgeInstall
  split <;> exact .of_eq ⟨rfl, rfl⟩

theorem judgeAckEvents_itemsKept (v : Word) (s : State) : ItemsKept s (judgeAckEvents v s).2 := by
  unfold judgeAckEvents
  split
  · unfold acknowledge
    split <;> exact .of_eq ⟨rfl, rfl⟩
  · exact ItemsKept.refl s

theorem judgeRestart_itemsKept (s : State) : ItemsKept s (judgeRestart s).2 := by
  unfold judgeRestart
  split
  · exact ItemsKept.refl s
  · split
    · exact ItemsKept.refl s
    · exact (dropWord_itemsKept .restart _).after ⟨rfl, rfl⟩

/-! ## The engine's commands -/

theorem judgeArm_itemsKept (action : Byte) (s : State) : ItemsKept s (judgeArm action s).2 := by
  unfold judgeArm
  split
  · exact ItemsKept.refl s
  · split
    · exact ItemsKept.refl s
    · split
      case h_6 | h_7 | h_8 => exact itemsKept_unless (.of_eq ⟨rfl, rfl⟩)
      all_goals exact ItemsKept.refl s

theorem judgeDisarm_itemsKept (s : State) : ItemsKept s (judgeDisarm s).2 := by
  unfold judgeDisarm
  split
  case h_5 | h_6 | h_7 | h_8 => exact itemsKept_unless (.of_eq ⟨rfl, rfl⟩)
  all_goals exact ItemsKept.refl s

theorem judgeMark_itemsKept (s : State) : ItemsKept s (judgeMark s).2 := by
  unfold judgeMark
  split
  case h_5 | h_6 | h_7 | h_8 => exact itemsKept_unless (.of_eq ⟨rfl, rfl⟩)
  all_goals exact ItemsKept.refl s

theorem judgeRelease_itemsKept (n : Byte) (s : State) : ItemsKept s (judgeRelease n s).2 := by
  unfold judgeRelease
  split
  · exact ItemsKept.refl s
  · split
    case h_6 | h_7 | h_8 => exact itemsKept_unless (.of_eq ⟨rfl, rfl⟩)
    all_goals exact ItemsKept.refl s

theorem judgeDiscard_itemsKept (s : State) : ItemsKept s (judgeDiscard s).2 := by
  unfold judgeDiscard
  split
  case h_6 | h_7 => exact itemsKept_unless (ItemsKept.refl s)
  case h_8 =>
    refine itemsKept_unless ?_
    split <;> exact .of_eq ⟨rfl, rfl⟩
  all_goals exact ItemsKept.refl s

theorem judgePeek_itemsKept (slot : BitVec 16) (s : State) : ItemsKept s (judgePeek slot s).2 := by
  have htake : ItemsKept s (takePeek slot s).2 := by
    unfold takePeek
    refine itemsKept_unless ?_
    split <;> exact .of_eq ⟨rfl, rfl⟩
  unfold judgePeek
  split
  case h_6 | h_7 | h_8 => exact htake
  all_goals exact ItemsKept.refl s

theorem judgeRollback_itemsKept (depth : Byte) (s : State) : ItemsKept s (judgeRollback depth s).2 := by
  have htake : ∀ origin, ItemsKept s (takeRollback origin depth s).2 := fun origin => by
    unfold takeRollback
    split
    · exact ItemsKept.refl s
    · split <;> exact .of_eq ⟨rfl, rfl⟩
  unfold judgeRollback
  split
  case h_6 => exact itemsKept_unless (ItemsKept.refl s)
  case h_7 | h_8 =>
    refine itemsKept_unless ?_
    split
    · exact ItemsKept.refl s
    · exact htake _
  all_goals exact ItemsKept.refl s

theorem judgeFormat_itemsKept (sizeCode : Byte) (s : State) : ItemsKept s (judgeFormat sizeCode s).2 := by
  unfold judgeFormat
  split
  · exact ItemsKept.refl s
  · split
    · unfold takeFormat
      split
      case h_5 | h_6 | h_7 | h_8 => exact itemsKept_unless (.of_eq ⟨rfl, rfl⟩)
      all_goals exact ItemsKept.refl s
    · exact ItemsKept.refl s

/-! ## Power and time -/

theorem takePfail_itemsKept (s : State) : ItemsKept s (takePfail s) := by
  have hhalt : ∀ u, ItemsKept u (haltPart u) := fun u => by
    unfold haltPart
    split
    · exact ItemsKept.refl u
    · exact (dropWord_itemsKept .powerFail _).after ⟨rfl, rfl⟩
  exact ((offer_itemsKept _ _).trans (hhalt _)).after ⟨rfl, rfl⟩

/-- A cold reset puts every item in its range and every slot in agreement (R143, R187). -/
theorem cold_itemsKept (s : State) (q : List Instr) : ItemsKept s (State.cold.withPending q) := by
  refine ⟨fun _ => by simp [SettingsOk, State.cold, coldSettings], fun _ i => ?_⟩
  have hslot : (State.cold.withPending q).captures[i] = coldCapture := Vector.getElem_replicate ..
  rw [hslot]
  exact coldCapture_ok

theorem holdWaiting_itemsKept (s : State) : ItemsKept s (holdWaiting s) := by
  unfold holdWaiting
  split
  · split <;> exact .of_eq ⟨rfl, rfl⟩
  · exact ItemsKept.refl s

theorem expireTimer_itemsKept (s : State) : ItemsKept s (expireTimer s) := .of_eq (by simp)

theorem takeDue_itemsKept (s : State) : ItemsKept s (takeDue s) :=
  (expireIfReached_itemsKept s).trans ((changeIfDue_itemsKept _).trans (expireTimer_itemsKept _))

theorem idle_itemsKept (s : State) : ItemsKept s (idle s) := by
  unfold idle
  split
  · exact ItemsKept.refl s
  · exact (takeDue_itemsKept s).trans (.of_eq (by simp [tickLink]))

theorem pinTurns_itemsKept (s : State) : ItemsKept s (pinTurns s) := by
  unfold pinTurns
  split
  · exact .of_eq ⟨rfl, rfl⟩
  · split
    · exact filteredChange_itemsKept s
    · exact .of_eq ⟨rfl, rfl⟩

/-! ## Every step -/

/-- A happening that comes about under a condition, and changes nothing otherwise. -/
theorem ItemsKept.of_branch {s t u : State} {b : Prop} [Decidable b]
    (h : Host.Outcome.next (if b then u else s) = (.next t : Host.Outcome State Fault Refusal)) (hk : ItemsKept s u) :
    ItemsKept s t := by
  cases h
  split
  · exact hk
  · exact ItemsKept.refl s

/-- Every command and happening keeps the conditions. -/
theorem exec_itemsKept {c : Instr} {s t : State} (h : exec c s = .next t) : ItemsKept s t := by
  have hlistens : ∀ {judge : State → Response × State}, ItemsKept s (judge s).2 → ItemsKept s (unlessHalted judge s).2 :=
    unlessHalted_leaves (ItemsKept.refl s)
  have hengine : ∀ {judge : State → Response × State}, ItemsKept s (judge s).2 → ItemsKept s (engineCommand judge s).2 :=
    engineCommand_leaves (ItemsKept.refl s)
  cases c with
  | markTake | arming | disarming | releaseJob | discardTenancy | peekJob | rollbackAnchor | restoreStep | settle
  | formatAnchorClear | formatSlotClear | formatFinalAnchor | recoveryAnchorRead | scanStep => exact exec_grant_itemsKept rfl h
  | status => exact serve_itemsKept h (ItemsKept.refl s)
  | get item => exact serve_itemsKept h (judgeGet_onlyReads item s).itemsKept
  | tableRead index table => exact serve_itemsKept h (judgeTableRead_onlyReads index table s).itemsKept
  | peekRead => exact serve_itemsKept h (judgePeekRead_onlyReads s).itemsKept
  | marksRead first count => exact serve_itemsKept h (judgeMarksRead_onlyReads first count s).itemsKept
  | captureRead slot => exact serve_itemsKept h (judgeCaptureRead_onlyReads slot s).itemsKept
  | set item v => exact serve_itemsKept h (hlistens (judgeSet_itemsKept item v s))
  | tableWrite index mask f => exact serve_itemsKept h (hlistens (judgeTableWrite_itemsKept index mask f s))
  | install => exact serve_itemsKept h (hlistens (judgeInstall_itemsKept s))
  | captureSet slot mode cause filter =>
    exact serve_itemsKept h (hlistens (judgeCaptureSet_itemsKept slot mode cause filter s))
  | arm action => exact serve_itemsKept h (hengine (judgeArm_itemsKept action s))
  | disarm => exact serve_itemsKept h (hengine (judgeDisarm_itemsKept s))
  | mark => exact serve_itemsKept h (hengine (judgeMark_itemsKept s))
  | release n => exact serve_itemsKept h (hengine (judgeRelease_itemsKept n s))
  | rollback depth => exact serve_itemsKept h (hengine (judgeRollback_itemsKept depth s))
  | discard => exact serve_itemsKept h (hengine (judgeDiscard_itemsKept s))
  | format sizeCode => exact serve_itemsKept h (hengine (judgeFormat_itemsKept sizeCode s))
  | peek slot => exact serve_itemsKept h (hengine (judgePeek_itemsKept slot s))
  | ackEvents v => exact serve_itemsKept h (judgeAckEvents_itemsKept v s)
  | restart => exact serve_itemsKept h (judgeRestart_itemsKept s)
  | frameUnknown | frameDiscarded | frameBegin | frameEnd => exact .of_branch h (.of_eq ⟨rfl, rfl⟩)
  | hostAccess kind address words => exact .of_branch h (presentRequest_itemsKept _ s)
  | hostTenancy => exact .of_branch h ((grantWord_itemsKept _).after ⟨rfl, rfl⟩)
  | memoryAnswer ok d => exact exec_memoryAnswer_itemsKept h
  | holdExpiry =>
    cases h
    exact expireIfReached_itemsKept s
  | periodicExpiry | quietExpiry => exact .of_branch h (expireTimer_itemsKept s)
  | filteredChange =>
    cases h
    exact changeIfDue_itemsKept s
  | markPinChange =>
    cases h
    split
    · exact ItemsKept.refl s
    · exact (changeIfDue_itemsKept s).trans (pinTurns_itemsKept _)
  | pfailAssert => exact .of_branch h (takePfail_itemsKept s)
  | pfailRelease | enterHalted => exact .of_branch h (.of_eq ⟨rfl, rfl⟩)
  | coldReset =>
    cases h
    exact cold_itemsKept s s.pending
  | warmRestart => exact .of_branch h ((holdWaiting_itemsKept _).after ⟨rfl, rfl⟩)
  | timestampTick =>
    cases h
    split
    · exact ItemsKept.refl s
    · exact (takeDue_itemsKept s).trans (.of_eq (by simp))
  | resetEnd straps pfail high selected =>
    refine .of_branch h ?_
    split
    · exact (takePfail_itemsKept _).after ⟨rfl, rfl⟩
    · exact .of_eq ⟨rfl, rfl⟩

theorem step_itemsKept {s t : State} (h : step s = .next t) : ItemsKept s t := by
  unfold step at h
  split at h
  · cases h
    exact idle_itemsKept s
  · exact (exec_itemsKept h).after ⟨rfl, rfl⟩

/-- Settles O57: the command at the front, or a microsecond, keeps both conditions. -/
theorem everyStepKeepsSettingsAndCaptures : Obligations.EveryStepKeepsSettingsAndCaptures := fun _ _ h =>
  ⟨(step_itemsKept h).settings, (step_itemsKept h).captures⟩

end Sys2Proof.Machine
end

section
/-!
PROOFS. ACK_EVENTS clears the flags it names, and the hit flags with COMPARE_MATCH (R40, R158, R184).
-/
namespace Sys2Proof.Machine

/-! ## The flags a set of 4 bytes names (R184) -/

/-- A set within the 25 positions names the flags of its bits (R184, Table 11-6). -/
theorem decodeFlagSet_within {v : Word} (h : v.toNat < 2 ^ 25) : decodeFlagSet v = some (v.setWidth 25) := by
  refine if_pos (BitVec.eq_of_toNat_eq ?_)
  rw [BitVec.extractLsb'_toNat, Nat.shiftRight_eq_div_pow, Nat.div_eq_of_lt h]
  rfl

/-- A set beyond the 25 positions names a position that is no flag (R184). -/
theorem decodeFlagSet_beyond {v : Word} (h : 2 ^ 25 ≤ v.toNat) : decodeFlagSet v = none := by
  refine if_neg fun hzero => ?_
  have hbits : v.toNat / 2 ^ 25 % 2 ^ 7 = 0 := by
    rw [← Nat.shiftRight_eq_div_pow, ← BitVec.extractLsb'_toNat, hzero]
    rfl
  have hlt : v.toNat < 2 ^ 32 := v.isLt
  omega

theorem Flag.bit_lt (f : Flag) : f.bit < 25 := by cases f <;> decide

/-- Whether the set that 4 bytes name holds a flag (R184). -/
theorem hasFlag_setWidth (v : Word) (f : Flag) : hasFlag (v.setWidth 25) f = v.getLsbD f.bit := by
  simp [hasFlag, f.bit_lt]

/-! ## The acknowledgement (R40, R158) -/

/-- The named flags are cleared, and the region table changes with COMPARE_MATCH alone (R40, R158). -/
theorem acknowledge_eq (x : FlagSet) (s : State) : acknowledge x s = { s with
    events := { s.events with flags := s.events.flags &&& ~~~x }
    regions := if hasFlag x .compareMatch then (clearHits s).regions else s.regions } := by
  unfold acknowledge
  split <;> rfl

/-- Every hit flag is cleared, and nothing else of an entry (R40). -/
theorem clearHits_active (s : State) (i : Fin Config.regionCount) :
    (clearHits s).regions.active[i] = { s.regions.active[i] with hit := false } := by
  simp [clearHits]

theorem judgeAckEvents_within {v : Word} (h : v.toNat < 2 ^ 25) (s : State) :
    judgeAckEvents v s = (answerOnly .ok, acknowledge (v.setWidth 25) s) := by
  rw [judgeAckEvents, decodeFlagSet_within h]

theorem judgeAckEvents_beyond {v : Word} (h : 2 ^ 25 ≤ v.toNat) (s : State) : judgeAckEvents v s = refuse .badArg s := by
  rw [judgeAckEvents, decodeFlagSet_beyond h]

/-- Settles O24: the refusal of a set beyond the flags, and the flags cleared, with the hit flags or without. -/
theorem ackEventsClearsTheNamedFlags : Obligations.AckEventsClearsTheNamedFlags := by
  intro v s h
  refine ⟨fun hv => exec_of_judgement h rfl rfl (judgeAckEvents_beyond hv s) rfl, fun hv => ?_⟩
  have hjudge := judgeAckEvents_within hv s
  rw [acknowledge_eq, hasFlag_setWidth, show Flag.compareMatch.bit = 9 from rfl] at hjudge
  refine ⟨_, exec_of_judgement h rfl rfl hjudge rfl, fun hbit => if_neg (Bool.eq_false_iff.1 hbit), fun hbit => ?_⟩
  rw [if_pos hbit]
  exact ⟨rfl, rfl, rfl, rfl, clearHits_active s⟩

end Sys2Proof.Machine
end

section
/-!
SUPPORT. The host port, the engine's tenancies and memory's answers clear no flag and leave the enables alone (R160, R161).
-/
namespace Sys2Proof.Machine

/-- A change that keeps the flags, made after one that leaves the event unit alone. -/
theorem FlagsKept.after {s t u : State} (k : FlagsKept t u) (h : t.events = s.events) : FlagsKept s u :=
  (FlagsKept.of_eq h).trans k

/-! ## The host port -/

theorem dropWord_keeps (x : FaultCause) (s : State) : FlagsKept s (dropWord x s) := by
  unfold dropWord
  split
  · split
    · exact FlagsKept.refl s
    · exact answerWord_keeps _ s
  · exact FlagsKept.refl s

theorem presentRequest_keeps (r : HostRequest) (s : State) : FlagsKept s (presentRequest r s) := by
  unfold presentRequest takeIfIdle
  split
  · exact (takeWords_keeps _ _).after rfl
  · exact .of_eq rfl

theorem forwardWrite_keeps (c : HostAccess) (s : State) : FlagsKept s (forwardWrite c s) := .of_eq rfl

theorem releaseOrLose_events (s : State) : (releaseOrLose s).events = s.events := by
  unfold releaseOrLose
  split <;> simp

theorem roomAgain_keeps (c : HostAccess) (s : State) : FlagsKept s (roomAgain c s) := by
  unfold roomAgain
  split
  · exact .of_eq rfl
  · split
    · exact holdWord_keeps s
    · exact .of_eq (releaseOrLose_events s)

theorem applyPolicy_keeps (s : State) : FlagsKept s (applyPolicy s) := by
  unfold applyPolicy
  split
  · exact holdWord_keeps s
  · exact finishWord_keeps _ s
  · exact .of_eq (releaseOrLose_events s)
  · exact .of_eq (by simp)

theorem journaledWrite_keeps (c : HostAccess) (s : State) : FlagsKept s (journaledWrite c s) := by
  unfold journaledWrite
  split
  · exact forwardWrite_keeps c s
  · split
    · exact .of_eq rfl
    · exact applyPolicy_keeps s

/-- A granted JOURNAL write, by the engine state (R57, R58). -/
theorem treatJournalWrite_keeps (c : HostAccess) (s : State) : FlagsKept s (treatJournalWrite c s) := by
  unfold treatJournalWrite
  split
  · split
    · exact forwardWrite_keeps c s
    · exact journaledWrite_keeps c s
  · split
    · exact forwardWrite_keeps c s
    · exact .of_eq (by simp)
  · exact forwardWrite_keeps c s
  · exact forwardWrite_keeps c s
  · exact holdWord_keeps s
  · exact holdWord_keeps s
  · exact finishWord_keeps _ s
  · exact finishWord_keeps _ s

/-- A granted word, by its kind and its mode (Table 3-1). -/
theorem treatWord_keeps (m : Mode) (c : HostAccess) (s : State) : FlagsKept s (treatWord m c s) := by
  unfold treatWord
  split
  · unfold treatRead
    split
    · exact holdWord_keeps s
    · exact .of_eq rfl
  · cases m with
    | pass => exact forwardWrite_keeps c s
    | journal => exact treatJournalWrite_keeps c s
    | locked => exact finishWord_keeps _ s

theorem grantWord_keeps (s : State) : FlagsKept s (grantWord s) := by
  unfold grantWord
  split
  · exact (treatWord_keeps _ _ _).after rfl
  · exact FlagsKept.refl s

/-- The current word's work, or the tenancy given back. -/
theorem withWord_keeps {f : HostAccess → State → State} {s : State} (hf : ∀ c, FlagsKept s (f c s)) :
    FlagsKept s (withWord f s) := by
  unfold withWord
  split
  · exact hf _
  · exact .of_eq rfl

/-- An UNDO entry written: its count, the watermark, and the host's write issued (R14, R59). -/
theorem undoAppended_keeps (c : HostAccess) (s : State) : FlagsKept s (undoAppended c s) :=
  ((countFor_keeps .undo c.grant _).trans ((checkWatermark_keeps _).trans (forwardWrite_keeps c _))).after rfl

theorem lapse_keeps (s : State) : FlagsKept s (lapse s) :=
  ((setFlag_keeps .journalFull _).trans (setFlag_keeps .journalDropped _)).after rfl

/-! ## Marks and arming -/

/-- A release recorded by its anchor write (R17). -/
theorem released_keeps (n : Nat) (s : State) : FlagsKept s (releaseEpochs n (anchorWritten s)) :=
  (releaseEpochs_keeps n _).after rfl

theorem markFinish_keeps (x : SourceSet) (s : State) : FlagsKept s (markFinish x s) :=
  ((setFlag_keeps .markTaken _).trans (offer_keeps _ _)).after rfl

theorem markLimitStep_keeps (x : SourceSet) (k : Nat) (s : State) : FlagsKept s (markLimitStep x k s) := by
  unfold markLimitStep
  split
  · exact .of_eq (by simp)
  · exact markFinish_keeps x s

theorem markAfterAppend_keeps (x : SourceSet) (k : Nat) (s : State) : FlagsKept s (markAfterAppend x k s) := by
  unfold markAfterAppend
  split
  · exact .of_eq (by simp)
  · exact markLimitStep_keeps x k s

theorem markBegin_events (x : SourceSet) (k : Nat) (s : State) : (markBegin x k s).events = s.events := by
  unfold markBegin
  split <;> simp [markAppendStep]

theorem armBegin_events (action : RestartAction) (k : Nat) (s : State) : (armBegin action k s).events = s.events := by
  unfold armBegin
  split <;> simp [armAppendStep]

theorem armRelease_keeps (n : Nat) (s : State) : FlagsKept s (armRelease n s) := by
  unfold armRelease
  split
  · exact FlagsKept.refl s
  · exact releaseEpochs_keeps n s

theorem armTimer_events (s : State) : (armTimer s).events = s.events := by
  unfold armTimer
  split <;> rfl

/-- The engine becomes ARMED, and offers the mark taken (R88). -/
theorem armAnchorDone_keeps (action : RestartAction) (count : Nat) (s : State) :
    FlagsKept s (armAnchorDone action count s) := by
  have hrelease : FlagsKept s (armRelease count (anchorWritten (endTenancy s))) := (armRelease_keeps count _).after rfl
  have hreport : ∀ u, FlagsKept u (offer { cause := .markTaken, sources := some Source.arm.only }
      (setFlag .markTaken (install (becomeArmed action u)))) := fun u =>
    ((setFlag_keeps .markTaken _).trans (offer_keeps _ _)).after rfl
  exact hrelease.trans ((hreport _).trans ((endExclusive_keeps _).after (armTimer_events _)))

/-! ## Rollback and recovery -/

theorem rollbackAnchorDone_events (s : State) : (rollbackAnchorDone s).events = s.events := by
  unfold rollbackAnchorDone
  split <;> rfl

theorem rollbackFails_events (s : State) : (rollbackFails s).events = s.events := by
  unfold rollbackFails
  split <;> simp

/-- A rollback that fails sets its flag first (R104). -/
theorem rollbackFails_keeps {s t : State} (h : FlagsKept s t) : FlagsKept s (rollbackFails t) :=
  h.trans (.of_eq (rollbackFails_events t))

theorem restoreComplete_events (link : Word) (s : State) : (restoreComplete link s).events = s.events := by
  unfold restoreComplete
  split <;> rfl

theorem restoreAction_events (e : Entry) (s : State) : (restoreAction e s).events = s.events := by
  unfold restoreAction
  split
  · simp
  · exact restoreComplete_events _ s

theorem restoreReadDone_keeps (ws : List Word) (s : State) : FlagsKept s (restoreReadDone ws s) := by
  have hdamaged : FlagsKept s (rollbackFails (setFlag .journalDamaged s)) := rollbackFails_keeps (setFlag_keeps _ s)
  unfold restoreReadDone
  split
  · split
    · exact .of_eq (restoreAction_events _ s)
    · exact hdamaged
  · exact hdamaged
  · exact .of_eq rfl

theorem settleVoidDone_events (s : State) : (settleVoidDone s).events = s.events := by
  unfold settleVoidDone
  split <;> rfl

theorem wakeUnlessRecovery_events (origin : RollbackOrigin) (s : State) :
    (wakeUnlessRecovery origin s).events = s.events := by
  cases origin <;> simp [wakeUnlessRecovery]

/-- A rollback's end, its ROLLBACK_END offered first (R102, R104). -/
theorem endRollback_keeps (origin : RollbackOrigin) (o : Offer) (s : State) :
    FlagsKept s (endRollback origin (offer o s)) := by
  refine (offer_keeps o s).trans ?_
  cases origin with
  | armed | disarmed => exact endExclusive_keeps _
  | recovery => exact endRecovery_keeps _

theorem rollbackBroken_keeps (s : State) : FlagsKept s (rollbackBroken s) := by
  unfold rollbackBroken
  split
  · exact ((endRollback_keeps _ _ _).after (wakeUnlessRecovery_events _ _)).after rfl
  · exact .of_eq rfl

theorem settleAnchorDone_keeps (s : State) : FlagsKept s (settleAnchorDone s) := by
  unfold settleAnchorDone
  split
  · refine ((setFlag_keeps .rollbackDone _).trans (endRollback_keeps _ _ _)).after ?_
    rw [wakeUnlessRecovery_events]
    simp
  · exact .of_eq rfl

theorem recoveryBroken_keeps (s : State) : FlagsKept s (recoveryBroken s) := (endRecovery_keeps _).after rfl

theorem recoveryDisarmed_keeps (s : State) : FlagsKept s (recoveryDisarmed s) := (endRecovery_keeps _).after rfl

/-- What the current anchor leads to after the scan (R110, R139). -/
theorem recoveryOutcome_keeps (f : AnchorCopy) (s : State) : FlagsKept s (recoveryOutcome f s) := by
  unfold recoveryOutcome
  split
  · exact recoveryDisarmed_keeps s
  · exact recoveryDisarmed_keeps s
  · unfold revertToNewest
    split
    · exact .of_eq rfl
    · exact recoveryBroken_keeps s
  · unfold resumeRolling
    split
    · exact .of_eq rfl
    · exact recoveryBroken_keeps s
  · exact recoveryDisarmed_keeps s
  · exact recoveryBroken_keeps s

theorem scanComplete_keeps (f : AnchorCopy) (next : Word) (s : State) : FlagsKept s (scanComplete f next s) :=
  (recoveryOutcome_keeps f _).after rfl

theorem scanAccept_keeps (f : AnchorCopy) (slot : Nat) (e : Entry) (s : State) : FlagsKept s (scanAccept f slot e s) := by
  unfold scanAccept
  split
  · exact .of_eq rfl
  · exact (scanComplete_keeps f _ _).after rfl

theorem scanHead_keeps (f : AnchorCopy) (slot : Nat) (ws : List Word) (s : State) : FlagsKept s (scanHead f slot ws s) := by
  unfold scanHead
  split
  · split
    · exact scanAccept_keeps f slot _ s
    · exact recoveryBroken_keeps s
  · exact recoveryBroken_keeps s

theorem scanNext_keeps (f : AnchorCopy) (slot : Nat) (ws : List Word) (s : State) : FlagsKept s (scanNext f slot ws s) := by
  unfold scanNext
  split
  · split
    · exact scanAccept_keeps f slot _ s
    · exact scanComplete_keeps f _ s
  · exact scanComplete_keeps f _ s

theorem scanDone_keeps (f : AnchorCopy) (slot : Nat) (ws : List Word) (s : State) : FlagsKept s (scanDone f slot ws s) := by
  unfold scanDone
  split
  · exact (scanHead_keeps f slot ws _).after rfl
  · exact (scanNext_keeps f slot ws _).after rfl

theorem recoveryDecision_keeps (f : AnchorCopy) (s : State) : FlagsKept s (recoveryDecision f s) := by
  unfold recoveryDecision
  split
  · exact recoveryBroken_keeps s
  · exact (endRecovery_keeps _).after rfl
  all_goals exact .of_eq rfl

/-- Both copies read: the choice and what it leads to (R135, R136). -/
theorem copyBRead_keeps (a b : CopyReading) (s : State) : FlagsKept s (copyBRead a b s) := by
  unfold copyBRead anchorsRead
  split
  · exact (recoveryDecision_keeps _ _).after rfl
  · exact (recoveryBroken_keeps _).after rfl
  · exact (endRecovery_keeps _).after rfl

/-! ## Memory's answers -/

theorem formatFailed_keeps (s : State) : FlagsKept s (formatFailed s) := by
  have hfault : FlagsKept s (setFlag .memoryFault (endTenancy s)) := (setFlag_keeps _ _).after rfl
  exact hfault.trans ((endExclusive_keeps _).after rfl)

theorem finishPeek_keeps (r : PeekResult) (s : State) : FlagsKept s (finishPeek r s) := (setFlag_keeps .peekDone _).after rfl

/-- A flag set, and then the end of the exclusive operation. -/
theorem setFlag_endExclusive_keeps (f : Flag) (s : State) : FlagsKept s (endExclusive (setFlag f s)) :=
  (setFlag_keeps f s).trans (endExclusive_keeps _)

/-- A step whose accesses were all answered OK clears no flag. -/
theorem completeWork_keeps (w : Work) (ws : List Word) (s : State) : FlagsKept s (completeWork w ws s) := by
  cases w with
  | hostRead | hostWrite => exact finishWord_keeps _ s
  | hostFirstWrite =>
    exact ((setFlag_keeps .journalDropped _).after (by simp)).trans (withWord_keeps fun c => forwardWrite_keeps c _)
  | hostLose => exact ((lapse_keeps _).after (by simp)).trans (withWord_keeps fun c => forwardWrite_keeps c _)
  | hostRelease => exact (released_keeps 1 s).trans (withWord_keeps fun c => roomAgain_keeps c _)
  | hostOldValue => exact withWord_keeps fun c => .of_eq (by simp [writeUndo])
  | hostUndo => exact withWord_keeps fun c => undoAppended_keeps c s
  | markRoom sources limit => exact (released_keeps 1 s).trans (.of_eq rfl)
  | markAppend sources limit stamp => exact (appendMark_keeps _ _ s).trans (markAfterAppend_keeps _ _ _)
  | markLapseEnd sources limit => exact (markLimitStep_keeps sources limit _).after rfl
  | markLimit sources count => exact (released_keeps count s).trans (markFinish_keeps sources _)
  | armRoom action limit => exact (released_keeps 1 s).trans (.of_eq rfl)
  | armAppend action limit stamp => exact (appendMark_keeps _ _ s).trans (.of_eq rfl)
  | armAnchor action count => exact armAnchorDone_keeps action count s
  | disarm fresh => exact (endExclusive_keeps _).after (by simp)
  | release count => exact ((released_keeps count _).trans (setFlag_keeps .releaseDone _)).after rfl
  | discard => exact (setFlag_endExclusive_keeps .releaseDone _).after (by simp)
  | rollbackAnchor => exact .of_eq (rollbackAnchorDone_events s)
  | restoreRead => exact restoreReadDone_keeps ws s
  | restoreWrite link => exact .of_eq (restoreComplete_events link s)
  | settleVoid => exact .of_eq (settleVoidDone_events s)
  | settleAnchor => exact settleAnchorDone_keeps s
  | brokenAnchor => exact (rollbackBroken_keeps _).after rfl
  | clearFirst | clearSecond | clearSlot | readCopyA => exact .of_eq rfl
  | formatAnchor => exact (setFlag_endExclusive_keeps .formatDone _).after rfl
  | readCopyB a => exact copyBRead_keeps a _ s
  | scan anchor slot => exact scanDone_keeps anchor slot ws s
  | peek => exact finishPeek_keeps _ s

/-- A step failed by an access answered ERROR clears no flag. -/
theorem failWork_keeps (w : Work) (s : State) : FlagsKept s (failWork w s) := by
  have hbroken := anchorFailure_keeps s
  have hfault := setFlag_keeps .memoryFault s
  cases w with
  | hostRead | hostWrite | hostOldValue | hostUndo => exact finishWord_keeps _ s
  | hostFirstWrite | hostRelease | hostLose => exact hbroken.trans (finishWord_keeps _ _)
  | markRoom | markLapseEnd | markLimit => exact hbroken.trans ((setFlag_keeps .markMissed _).after rfl)
  | markAppend => exact ((setFlag_keeps .memoryFault _).trans (setFlag_keeps .markMissed _)).after rfl
  | armRoom | armAnchor => exact hbroken.trans ((setFlag_endExclusive_keeps .markMissed _).after rfl)
  | armAppend => exact ((setFlag_keeps .memoryFault _).trans (setFlag_endExclusive_keeps .markMissed _)).after rfl
  | disarm | discard => exact hbroken.trans ((endExclusive_keeps _).after rfl)
  | release => exact hbroken.trans (.of_eq rfl)
  | rollbackAnchor | settleAnchor => exact rollbackFails_keeps (hfault.trans (setFlag_keeps .anchorFault _))
  | restoreRead | restoreWrite | settleVoid => exact rollbackFails_keeps hfault
  | brokenAnchor => exact (setFlag_keeps .anchorFault s).trans (rollbackBroken_keeps _)
  | clearFirst | clearSecond | clearSlot => exact formatFailed_keeps s
  | formatAnchor => exact (setFlag_keeps .anchorFault s).trans (formatFailed_keeps _)
  | readCopyA => exact hfault.trans (.of_eq rfl)
  | readCopyB a => exact hfault.trans (copyBRead_keeps a .unreadable _)
  | scan => exact ((setFlag_keeps .memoryFault _).trans (recoveryBroken_keeps _)).after rfl
  | peek => exact hfault.trans (finishPeek_keeps _ _)

theorem accessAnswered_keeps (t : Tenancy) (d : Word) (s : State) : FlagsKept s (accessAnswered t d s) := by
  unfold accessAnswered
  split
  · exact .of_eq rfl
  · exact completeWork_keeps _ _ s
  · exact .of_eq rfl
  · exact completeWork_keeps _ _ s

theorem exec_memoryAnswer_keeps {ok : Bool} {d : Word} {s t : State} (h : exec (.memoryAnswer ok d) s = .next t) :
    FlagsKept s t := by
  rw [exec_memoryAnswer, execMemoryAnswer, Host.Outcome.next.injEq] at h
  subst h
  split
  · split
    · exact accessAnswered_keeps _ d s
    · exact failWork_keeps _ s
  · exact FlagsKept.refl s

end Sys2Proof.Machine
end

section
/-!
SUPPORT. The grants to the engine, the commands and the happenings: which clear no flag and leave the enables alone, and what
the rest make of the event unit (R158, R160, R161, R187).
-/
namespace Sys2Proof.Machine

/-! ## Grants to the engine (R115, R118) -/

/-- An engine tenancy's beginning that clears no flag, granted or not. -/
theorem onGrant_keeps {r : Request} {work : State → State} {s t : State} (h : onGrant r work s = .next t)
    (hw : ∀ u, FlagsKept u (work u)) : FlagsKept s t := by
  rw [onGrant, Host.Outcome.next.injEq] at h
  subst h
  split
  · exact (hw _).after rfl
  · exact FlagsKept.refl s

theorem execMarkTake_keeps {s t : State} (h : execMarkTake s = .next t) : FlagsKept s t := by
  unfold execMarkTake at h
  refine onGrant_keeps h fun u => ?_
  split
  · exact .of_eq (by simp [markBegin_events])
  · exact (setFlag_keeps .markMissed _).after (by simp)

theorem execArming_keeps {s t : State} (h : execArming s = .next t) : FlagsKept s t := by
  unfold execArming at h
  refine onGrant_keeps h fun u => ?_
  split
  · exact setFlag_endExclusive_keeps .markMissed u
  · exact .of_eq (armBegin_events _ _ u)

theorem execDisarming_keeps {s t : State} (h : execDisarming s = .next t) : FlagsKept s t := by
  unfold execDisarming at h
  refine onGrant_keeps h fun u => ?_
  split
  · exact endExclusive_keeps u
  · split <;> exact .of_eq (by simp)

theorem execReleaseJob_keeps {s t : State} (h : execReleaseJob s = .next t) : FlagsKept s t := by
  unfold execReleaseJob at h
  refine onGrant_keeps h fun u => ?_
  split
  · exact .of_eq rfl
  · split
    · exact (setFlag_keeps .releaseDone _).after rfl
    · exact .of_eq (by simp)

theorem execDiscardTenancy_keeps {s t : State} (h : execDiscardTenancy s = .next t) : FlagsKept s t := by
  unfold execDiscardTenancy at h
  refine onGrant_keeps h fun u => ?_
  split
  · exact endExclusive_keeps u
  · split
    · exact setFlag_endExclusive_keeps .releaseDone u
    · exact .of_eq (by simp)

theorem execRollbackAnchor_keeps {s t : State} (h : execRollbackAnchor s = .next t) : FlagsKept s t := by
  unfold execRollbackAnchor at h
  refine onGrant_keeps h fun u => ?_
  split
  · exact .of_eq (by simp [fixRange])
  · exact FlagsKept.refl u

theorem execSettle_keeps {s t : State} (h : execSettle s = .next t) : FlagsKept s t := by
  unfold execSettle at h
  refine onGrant_keeps h fun u => ?_
  split
  · split <;> exact .of_eq (by simp [settleAnchorStep])
  · exact FlagsKept.refl u

theorem execRestoreStep_keeps {s t : State} (h : execRestoreStep s = .next t) : FlagsKept s t := by
  unfold execRestoreStep at h
  refine onGrant_keeps h fun u => ?_
  split <;> exact .of_eq rfl

theorem execScanStep_keeps {s t : State} (h : execScanStep s = .next t) : FlagsKept s t := by
  unfold execScanStep at h
  refine onGrant_keeps h fun u => ?_
  split <;> exact .of_eq rfl

theorem execRecoveryAnchorRead_keeps {s t : State} (h : execRecoveryAnchorRead s = .next t) : FlagsKept s t := by
  unfold execRecoveryAnchorRead at h
  refine onGrant_keeps h fun u => ?_
  split <;> exact .of_eq rfl

theorem execPeekJob_keeps {s t : State} (h : execPeekJob s = .next t) : FlagsKept s t := by
  unfold execPeekJob at h
  exact onGrant_keeps h fun _ => .of_eq rfl

theorem execFormatAnchorClear_keeps {s t : State} (h : execFormatAnchorClear s = .next t) : FlagsKept s t := by
  unfold execFormatAnchorClear at h
  exact onGrant_keeps h fun _ => .of_eq rfl

theorem execFormatSlotClear_keeps {s t : State} (h : execFormatSlotClear s = .next t) : FlagsKept s t := by
  unfold execFormatSlotClear at h
  exact onGrant_keeps h fun _ => .of_eq rfl

theorem execFormatFinalAnchor_keeps {s t : State} (h : execFormatFinalAnchor s = .next t) : FlagsKept s t := by
  unfold execFormatFinalAnchor at h
  exact onGrant_keeps h fun _ => .of_eq rfl

/-- A grant to the engine clears no flag. -/
theorem exec_grant_keeps {c : Instr} {s t : State} (hc : grantsTenancy c = true) (h : exec c s = .next t) :
    FlagsKept s t := by
  cases c with
  | markTake => exact execMarkTake_keeps h
  | arming => exact execArming_keeps h
  | disarming => exact execDisarming_keeps h
  | releaseJob => exact execReleaseJob_keeps h
  | discardTenancy => exact execDiscardTenancy_keeps h
  | rollbackAnchor => exact execRollbackAnchor_keeps h
  | settle => exact execSettle_keeps h
  | restoreStep => exact execRestoreStep_keeps h
  | scanStep => exact execScanStep_keeps h
  | recoveryAnchorRead => exact execRecoveryAnchorRead_keeps h
  | peekJob => exact execPeekJob_keeps h
  | formatAnchorClear => exact execFormatAnchorClear_keeps h
  | formatSlotClear => exact execFormatSlotClear_keeps h
  | formatFinalAnchor => exact execFormatFinalAnchor_keeps h
  | _ => cases hc

/-! ## The commands of the link -/

theorem OnlyReads.flagsKept {s : State} {p : Response × State} (h : OnlyReads s p) : FlagsKept s p.2 := by
  cases h with
  | data | refused => exact FlagsKept.refl s

theorem judgeTableWrite_events (index : Byte) (mask : BitVec 16) (f : TableFields) (s : State) :
    (judgeTableWrite index mask f s).2.events = s.events := by
  unfold judgeTableWrite
  (repeat' split) <;> rfl

theorem judgeInstall_events (s : State) : (judgeInstall s).2.events = s.events := by
  unfold judgeInstall
  split <;> rfl

theorem judgeCaptureSet_events (slot mode cause filter : Byte) (s : State) :
    (judgeCaptureSet slot mode cause filter s).2.events = s.events := by
  unfold judgeCaptureSet
  split <;> rfl

theorem judgeRestart_keeps (s : State) : FlagsKept s (judgeRestart s).2 := by
  unfold judgeRestart
  split
  · exact FlagsKept.refl s
  · split
    · exact FlagsKept.refl s
    · exact (dropWord_keeps .restart _).after rfl

/-! ## The engine's commands -/

theorem judgeArm_events (action : Byte) (s : State) : (judgeArm action s).2.events = s.events := by
  unfold judgeArm
  (repeat' split) <;> rfl

theorem judgeDisarm_events (s : State) : (judgeDisarm s).2.events = s.events := by
  unfold judgeDisarm
  (repeat' split) <;> rfl

theorem judgeMark_events (s : State) : (judgeMark s).2.events = s.events := by
  unfold judgeMark
  (repeat' split) <;> rfl

theorem judgeRelease_events (n : Byte) (s : State) : (judgeRelease n s).2.events = s.events := by
  unfold judgeRelease
  (repeat' split) <;> rfl

theorem judgeRollback_events (depth : Byte) (s : State) : (judgeRollback depth s).2.events = s.events := by
  unfold judgeRollback takeRollback
  (repeat' split) <;> rfl

theorem judgeFormat_events (sizeCode : Byte) (s : State) : (judgeFormat sizeCode s).2.events = s.events := by
  unfold judgeFormat takeFormat
  (repeat' split) <;> rfl

theorem judgePeek_events (slot : BitVec 16) (s : State) : (judgePeek slot s).2.events = s.events := by
  unfold judgePeek takePeek
  (repeat' split) <;> rfl

/-- DISCARD of an empty journal sets RELEASE_DONE at once (R21). -/
theorem judgeDiscard_keeps (s : State) : FlagsKept s (judgeDiscard s).2 := by
  unfold judgeDiscard
  split
  case h_6 | h_7 => split <;> exact FlagsKept.refl s
  case h_8 =>
    split
    · exact FlagsKept.refl s
    · split
      · exact setFlag_keeps .releaseDone s
      · exact .of_eq rfl
  all_goals exact FlagsKept.refl s

/-! ## Power and time -/

theorem haltPart_keeps (s : State) : FlagsKept s (haltPart s) := by
  unfold haltPart
  split
  · exact FlagsKept.refl s
  · exact (dropWord_keeps .powerFail _).after rfl

theorem takePfail_keeps (s : State) : FlagsKept s (takePfail s) :=
  ((setFlag_keeps .powerFail _).trans ((offer_keeps _ _).trans (haltPart_keeps _))).after rfl

theorem holdWaiting_events (s : State) : (holdWaiting s).events = s.events := by
  unfold holdWaiting
  (repeat' split) <;> rfl

theorem takeDue_keeps (s : State) : FlagsKept s (takeDue s) :=
  (expireIfReached_keeps s).trans ((changeIfDue_keeps _).trans (expireTimer_keeps _))

theorem idle_keeps (s : State) : FlagsKept s (idle s) := by
  unfold idle
  split
  · exact FlagsKept.refl s
  · exact (takeDue_keeps s).trans (.of_eq (by simp [tickLink]))

theorem pinTurns_keeps (s : State) : FlagsKept s (pinTurns s) := by
  unfold pinTurns
  split
  · exact .of_eq rfl
  · split
    · exact filteredChange_keeps s
    · exact .of_eq rfl

/-! ## What a command or happening makes of the event unit -/

/-- What a command or happening, or a microsecond in which there is none, makes of the event unit: no flag cleared and the
enables left alone, but for a SET of the enables, an acknowledgement and a cold reset. -/
inductive EventChange (s t : State) : Option Instr → Prop where
  | kept {c : Option Instr} (h : FlagsKept s t) : EventChange s t c
  | enabled (v : Word) (x : FlagSet) (h : t.events = { s.events with enables := x }) : EventChange s t (some (.set 10 v))
  | acknowledged (v : Word) (h : t.events = { s.events with flags := s.events.flags &&& ~~~(v.setWidth 25) }) :
      EventChange s t (some (.ackEvents v))
  | reset (h : t.events = ⟨0, 0⟩) : EventChange s t (some .coldReset)

/-- The change looks at the event unit alone. -/
theorem EventChange.congr {s t u v : State} {c : Option Instr} (h : EventChange s t c) (hs : u.events = s.events)
    (ht : v.events = t.events) : EventChange u v c := by
  cases h with
  | kept h => exact .kept ((h.after hs.symm).trans (.of_eq ht))
  | enabled v x h => exact .enabled v x (by rw [ht, h, hs])
  | acknowledged v h => exact .acknowledged v (by rw [ht, h, hs])
  | reset h => exact .reset (ht.trans h)

/-- What taking a command leaves of the event unit is what its judgement leaves. -/
theorem serve_eventChange {c : Instr} {judge : State → Response × State} {s t : State} (h : serve c judge s = .next t)
    (hj : EventChange s (judge s).2 (some c)) : EventChange s t (some c) :=
  serve_leaves (P := (EventChange s · (some c))) h (.kept (FlagsKept.refl s)) hj fun _ _ hu => hu.congr rfl rfl

/-- The flags beyond the 25 positions are refused, and the named ones are cleared (R158, R184). -/
theorem judgeAckEvents_eventChange (v : Word) (s : State) :
    EventChange s (judgeAckEvents v s).2 (some (.ackEvents v)) := by
  obtain hv | hv := Nat.lt_or_ge v.toNat (2 ^ 25)
  · rw [judgeAckEvents_within hv, acknowledge_eq]
    exact .acknowledged v rfl
  · rw [judgeAckEvents_beyond hv]
    exact .kept (FlagsKept.refl s)

/-- Item 10 is the enable set; every other item leaves it alone, and none clears a flag (Table 10-5, R176). -/
theorem itemSet_eventChange {item : Byte} {v : Word} {s t : State} (h : itemSet item v s = some t) :
    EventChange s t (some (.set item v)) := by
  unfold itemSet at h
  split at h
  case h_11 => cases h
  all_goals obtain ⟨x, -, rfl⟩ := Option.map_eq_some_iff.1 h
  case h_5 => exact .kept ((expireIfReached_keeps _).after rfl)
  case h_9 => exact .kept ((changeIfDue_keeps _).after rfl)
  case h_10 hitem =>
    obtain rfl : item = 10 := BitVec.eq_of_toNat_eq hitem
    exact .enabled v x rfl
  all_goals exact .kept (.of_eq rfl)

theorem judgeSet_eventChange (item : Byte) (v : Word) (s : State) :
    EventChange s (judgeSet item v s).2 (some (.set item v)) := by
  unfold judgeSet
  split
  · rename_i t ht
    exact itemSet_eventChange ht
  · exact .kept (FlagsKept.refl s)

/-- A happening that comes about under a condition, and changes nothing otherwise. -/
theorem FlagsKept.of_branch {s t u : State} {b : Prop} [Decidable b]
    (h : Host.Outcome.next (if b then u else s) = (.next t : Host.Outcome State Fault Refusal)) (hk : FlagsKept s u) :
    FlagsKept s t := by
  cases h
  split
  · exact hk
  · exact FlagsKept.refl s

/-- Every command and happening is such a change. -/
theorem exec_eventChange {c : Instr} {s t : State} (h : exec c s = .next t) : EventChange s t (some c) := by
  have hserve {judge : State → Response × State} (h : serve c judge s = .next t) (hj : FlagsKept s (judge s).2) :
      EventChange s t (some c) := serve_eventChange h (.kept hj)
  have hlistens {judge : State → Response × State} : FlagsKept s (judge s).2 → FlagsKept s (unlessHalted judge s).2 :=
    unlessHalted_leaves (FlagsKept.refl s)
  have hengine {judge : State → Response × State} : FlagsKept s (judge s).2 → FlagsKept s (engineCommand judge s).2 :=
    engineCommand_leaves (FlagsKept.refl s)
  cases c with
  | set item v =>
    exact serve_eventChange h (unlessHalted_leaves (P := (EventChange s · (some (.set item v)))) (.kept (FlagsKept.refl s))
      (judgeSet_eventChange item v s))
  | ackEvents v => exact serve_eventChange h (judgeAckEvents_eventChange v s)
  | coldReset =>
    cases h
    exact .reset rfl
  | markTake | arming | disarming | releaseJob | discardTenancy | peekJob | rollbackAnchor | restoreStep | settle
  | formatAnchorClear | formatSlotClear | formatFinalAnchor | recoveryAnchorRead | scanStep =>
    exact .kept (exec_grant_keeps rfl h)
  | status => exact hserve h (FlagsKept.refl s)
  | get item => exact hserve h (judgeGet_onlyReads item s).flagsKept
  | tableRead index table => exact hserve h (judgeTableRead_onlyReads index table s).flagsKept
  | peekRead => exact hserve h (judgePeekRead_onlyReads s).flagsKept
  | marksRead first count => exact hserve h (judgeMarksRead_onlyReads first count s).flagsKept
  | captureRead slot => exact hserve h (judgeCaptureRead_onlyReads slot s).flagsKept
  | tableWrite index mask f => exact hserve h (hlistens (.of_eq (judgeTableWrite_events index mask f s)))
  | install => exact hserve h (hlistens (.of_eq (judgeInstall_events s)))
  | captureSet slot mode cause filter =>
    exact hserve h (hlistens (.of_eq (judgeCaptureSet_events slot mode cause filter s)))
  | arm action => exact hserve h (hengine (.of_eq (judgeArm_events action s)))
  | disarm => exact hserve h (hengine (.of_eq (judgeDisarm_events s)))
  | mark => exact hserve h (hengine (.of_eq (judgeMark_events s)))
  | release n => exact hserve h (hengine (.of_eq (judgeRelease_events n s)))
  | rollback depth => exact hserve h (hengine (.of_eq (judgeRollback_events depth s)))
  | discard => exact hserve h (hengine (judgeDiscard_keeps s))
  | format sizeCode => exact hserve h (hengine (.of_eq (judgeFormat_events sizeCode s)))
  | peek slot => exact hserve h (hengine (.of_eq (judgePeek_events slot s)))
  | restart => exact hserve h (judgeRestart_keeps s)
  | frameUnknown | frameDiscarded | frameBegin | frameEnd | pfailRelease | enterHalted =>
    exact .kept (.of_branch h (.of_eq rfl))
  | hostAccess kind address words => exact .kept (.of_branch h (presentRequest_keeps _ s))
  | hostTenancy => exact .kept (.of_branch h ((grantWord_keeps _).after rfl))
  | memoryAnswer ok d => exact .kept (exec_memoryAnswer_keeps h)
  | holdExpiry =>
    cases h
    exact .kept (expireIfReached_keeps s)
  | periodicExpiry | quietExpiry => exact .kept (.of_branch h (expireTimer_keeps s))
  | filteredChange =>
    cases h
    exact .kept (changeIfDue_keeps s)
  | markPinChange =>
    cases h
    split
    · exact .kept (FlagsKept.refl s)
    · exact .kept ((changeIfDue_keeps s).trans (pinTurns_keeps _))
  | pfailAssert => exact .kept (.of_branch h (takePfail_keeps s))
  | warmRestart => exact .kept (.of_branch h (.of_eq (holdWaiting_events _)))
  | timestampTick =>
    cases h
    split
    · exact .kept (FlagsKept.refl s)
    · exact .kept ((takeDue_keeps s).trans (.of_eq (by simp)))
  | resetEnd straps pfail high selected =>
    refine .kept (.of_branch h ?_)
    split
    · exact (takePfail_keeps _).after rfl
    · exact .of_eq rfl

/-- Every step is such a change, by the command at the front of the queue (log entry 2). -/
theorem step_eventChange {s t : State} (h : step s = .next t) : EventChange s t s.pending.head? := by
  unfold step at h
  split at h
  · cases h
    exact .kept (idle_keeps s)
  · rename_i c rest hq
    rw [hq, List.head?_cons]
    exact (exec_eventChange h).congr rfl rfl

end Sys2Proof.Machine
end

section
/-!
PROOFS. A flag stays set until it is acknowledged or the part is reset, and ATTN is driven low exactly while an enabled flag is
set (R160, R163).
-/
namespace Sys2Proof.Machine

/-! ## ATTN (R162, R163) -/

/-- ATTN is driven low exactly while some position is both set and enabled (R163). -/
theorem attnLow_iff (s : State) : s.attnLow = true ↔
    ∃ n : Fin 25, s.events.flags.getLsbD n.val = true ∧ s.events.enables.getLsbD n.val = true := by
  simp only [State.attnLow, EventUnit.pendingView, bne_iff_ne, ne_eq, BitVec.eq_of_getLsbD_eq_iff, Fin.exists_iff]
  simp [and_left_comm]

/-- Every position is a flag's (Table 11-6). -/
theorem exists_flag_of_bit (n : Fin 25) : ∃ f : Flag, f.bit = n.val := by
  fin_cases n
  exacts [⟨.markTaken, rfl⟩, ⟨.markMissed, rfl⟩, ⟨.epochReleased, rfl⟩, ⟨.journalHigh, rfl⟩, ⟨.journalDropped, rfl⟩,
    ⟨.rollbackDone, rfl⟩, ⟨.formatDone, rfl⟩, ⟨.recoveryDone, rfl⟩, ⟨.peekDone, rfl⟩, ⟨.compareMatch, rfl⟩,
    ⟨.capture0, rfl⟩, ⟨.capture1, rfl⟩, ⟨.capture2, rfl⟩, ⟨.capture3, rfl⟩, ⟨.lineChange, rfl⟩, ⟨.releaseDone, rfl⟩,
    ⟨.lockedWrite, rfl⟩, ⟨.outOfSpace, rfl⟩, ⟨.journalFull, rfl⟩, ⟨.stallExpired, rfl⟩, ⟨.brokenWrite, rfl⟩,
    ⟨.memoryFault, rfl⟩, ⟨.journalDamaged, rfl⟩, ⟨.anchorFault, rfl⟩, ⟨.powerFail, rfl⟩]

/-- ATTN is driven low exactly while a flag is set whose enable is set (R163). -/
theorem attnLow_iff_flag (s : State) : s.attnLow = true ↔
    ∃ f : Flag, hasFlag s.events.flags f = true ∧ s.events.enables.getLsbD f.bit = true := by
  rw [attnLow_iff]
  constructor
  · rintro ⟨n, hset, henabled⟩
    obtain ⟨f, hf⟩ := exists_flag_of_bit n
    exact ⟨f, by rw [hasFlag, hf, hset], by rw [hf, henabled]⟩
  · rintro ⟨f, hset, henabled⟩
    exact ⟨⟨f.bit, f.bit_lt⟩, hset, henabled⟩

/-- Where no flag is cleared and the enables stand, ATTN stays low (R163). -/
theorem FlagsKept.attnLow {s t : State} (h : FlagsKept s t) (hs : s.attnLow = true) : t.attnLow = true := by
  obtain ⟨f, hset, henabled⟩ := (attnLow_iff_flag s).1 hs
  exact (attnLow_iff_flag t).2 ⟨f, h.flags f hset, by rw [h.enables, henabled]⟩

/-- Where the enables stand, ATTN becomes low only by the setting of an enabled flag (R163). -/
theorem newFlag_of_attnLow {s t : State} (h : t.events.enables = s.events.enables) (hs : s.attnLow = false)
    (ht : t.attnLow = true) : ∃ f : Flag, hasFlag s.events.flags f = false ∧ hasFlag t.events.flags f = true ∧
      t.events.enables.getLsbD f.bit = true := by
  obtain ⟨f, hset, henabled⟩ := (attnLow_iff_flag t).1 ht
  refine ⟨f, Bool.eq_false_iff.2 fun hf => Bool.eq_false_iff.1 hs ?_, hset, henabled⟩
  exact (attnLow_iff_flag s).2 ⟨f, hf, by rw [← h, henabled]⟩

/-! ## What a change of the event unit keeps -/

/-- A flag stays set but for a cold reset and an acknowledgement that names it (R160). -/
theorem EventChange.hasFlag_kept {s t : State} {c : Option Instr} {f : Flag} (h : EventChange s t c)
    (hset : hasFlag s.events.flags f = true) (hreset : c ≠ some .coldReset)
    (hack : ∀ v, c = some (.ackEvents v) → v.getLsbD f.bit = false) : hasFlag t.events.flags f = true := by
  cases h with
  | kept h => exact h.flags f hset
  | enabled v x h =>
    rw [h]
    exact hset
  | acknowledged v h =>
    have hcleared := clearFlags_hasFlag (v.setWidth 25) f s
    rw [hset, hasFlag_setWidth, hack v rfl] at hcleared
    rw [h]
    exact hcleared
  | reset h => exact absurd rfl hreset

/-- What releases ATTN (R163). -/
theorem EventChange.released {s t : State} {c : Option Instr} (h : EventChange s t c) (hs : s.attnLow = true)
    (ht : t.attnLow = false) : c = some .coldReset ∨ (∃ v, c = some (.ackEvents v)) ∨ ∃ v, c = some (.set 10 v) := by
  cases h with
  | kept h => exact absurd (h.attnLow hs) (Bool.eq_false_iff.1 ht)
  | enabled v x h => exact .inr (.inr ⟨v, rfl⟩)
  | acknowledged v h => exact .inr (.inl ⟨v, rfl⟩)
  | reset h => exact .inl rfl

/-- What drives ATTN low (R163). -/
theorem EventChange.driven {s t : State} {c : Option Instr} (h : EventChange s t c) (hs : s.attnLow = false)
    (ht : t.attnLow = true) : (∃ v, c = some (.set 10 v)) ∨
      ∃ f : Flag, hasFlag s.events.flags f = false ∧ hasFlag t.events.flags f = true ∧
        t.events.enables.getLsbD f.bit = true := by
  cases h with
  | kept h => exact .inr (newFlag_of_attnLow h.enables hs ht)
  | enabled v x h => exact .inl ⟨v, rfl⟩
  | acknowledged v h => exact .inr (newFlag_of_attnLow (by rw [h]) hs ht)
  | reset h =>
    have hlow : t.attnLow = false := by
      rw [State.attnLow, h]
      rfl
    exact absurd ht (Bool.eq_false_iff.1 hlow)

/-- Settles O59: every command, happening and step is a change of the event unit that keeps what R160 and R163 ask. -/
theorem flagsStaySetUntilAcknowledged : Obligations.FlagsStaySetUntilAcknowledged := by
  refine ⟨fun f c s t hset h hreset hack => ?_, fun f s t hset h hreset hack => ?_, fun c s t h => ?_⟩
  · exact (exec_eventChange h).hasFlag_kept hset (fun hc => hreset (Option.some.inj hc))
      fun v hv => hack v (Option.some.inj hv)
  · exact (step_eventChange h).hasFlag_kept hset hreset hack
  · have hchange : EventChange s t c := by
      obtain ⟨i, rfl, h⟩ | ⟨rfl, h⟩ := h
      · exact exec_eventChange h
      · exact step_eventChange h
    exact ⟨attnLow_iff t, hchange.released, hchange.driven⟩

end Sys2Proof.Machine
end

section
/-!
PROOFS. A frame's beginning and end, a malformed frame, and the commands that a halted or restarting part refuses (R167 to R169,
R171, R172, R180, R181).
-/
namespace Sys2Proof.Machine

/-! ## Frames (R167 to R169, R171) -/

theorem exec_frameBegin {s : State} (hr : s.control.resetHeld = false) (hp : s.link.phase = .idle)
    (hi : s.link.ignoring = false) : exec .frameBegin s = .next (s.withLink ⟨.code, false, none⟩) :=
  congrArg Host.Outcome.next (if_pos (by simp [hr, hp, hi]))

theorem exec_frameEnd {s : State} (h : s.link.phase.taken = true ∨ s.link.ignoring = true) :
    exec .frameEnd s = .next (s.withLink ⟨.idle, false, none⟩) :=
  congrArg Host.Outcome.next (if_pos (by simpa using h))

theorem exec_frameDiscarded {s : State} (h : s.link.phase.untaken = true) :
    exec .frameDiscarded s = .next (s.withLink ⟨.idle, false, none⟩) :=
  congrArg Host.Outcome.next (if_pos h)

/-- The frame's command has been taken in these three phases (R167). -/
theorem taken_iff (p : FramePhase) : p.taken = true ↔ p = .turnaround ∨ (∃ n, p = .response n) ∨ p = .drain := by
  cases p <;> simp [FramePhase.taken]

/-- And it is still to be taken in these (R167). -/
theorem untaken_iff (p : FramePhase) : p.untaken = true ↔ p = .code ∨ p = .length ∨ ∃ n, p = .arguments n := by
  cases p <;> simp [FramePhase.untaken]

/-- A malformed frame is received with as many bytes as its length says, and answered UNKNOWN (R169). -/
theorem exec_frameUnknown {s : State} (h : s.serving) {code length : Byte} (hm : malformed code length = true) :
    exec (.frameUnknown code length) s = .next (s.answered .unknown []) := by
  obtain ⟨hr, hp⟩ := h
  have hreceived : s.link.phase.receive (code :: length :: List.replicate length.toNat 0) = .turnaround := by
    rw [hp, receive_frame code length _ List.length_replicate]
  refine congrArg Host.Outcome.next ((if_pos (by simp [State.receiving, hr, hp, hm])).trans ?_)
  rw [hreceived]
  rfl

/-- Settles O9: by the event, a frame's end by the phase it comes in. -/
theorem framesBeginAndEnd : Obligations.FramesBeginAndEnd := by
  intro s
  refine ⟨fun _ _ h hm => exec_frameUnknown h hm, fun hr hp hi => exec_frameBegin hr hp hi, fun h => ?_, fun h => ?_⟩
  · refine exec_frameEnd ?_
    rw [taken_iff]
    rcases h with h | h | h | h
    exacts [.inl (.inl h), .inl (.inr (.inl h)), .inl (.inr (.inr h)), .inr h]
  · exact exec_frameDiscarded ((untaken_iff _).2 h)

/-! ## The link's own refusals (R172, R180, R181) -/

/-- A command that the link hands on only outside HALTED is refused while the part is HALTED (R180). -/
theorem exec_of_halted {s : State} (h : s.serving) (hh : s.control.halted = true) {c : Instr} {code : Byte}
    {args : List Byte} (hf : commandFrame c = some (code, args)) {judge : State → Response × State}
    (he : exec c s = serve c (unlessHalted judge) s) : exec c s = .next (s.answered .halted []) :=
  exec_of_judgement h hf he (if_pos hh) rfl

/-- An engine command is refused while a restart is pending (R181). -/
theorem exec_of_restarting {s : State} (h : s.serving) (hh : s.control.halted = false)
    (hp : s.control.restartPending = true) {c : Instr} {code : Byte} {args : List Byte}
    (hf : commandFrame c = some (code, args)) {judge : State → Response × State}
    (he : exec c s = serve c (engineCommand judge) s) : exec c s = .next (s.answered .busy []) :=
  exec_of_judgement h hf he ((unlessHalted_of_running hh _).trans (if_pos hp)) rfl

/-- Settles O15: each command of the two lists is handed on past the refusal that it meets here. -/
theorem haltAndRestartRefuseCommands : Obligations.HaltAndRestartRefuseCommands := by
  intro c s h
  refine ⟨fun hc hh => ?_, fun hc hh hp => ?_⟩
  · cases c with
    | set | tableWrite | install | captureSet | arm | disarm | mark | release | rollback | discard | format | peek =>
      exact exec_of_halted h hh rfl rfl
    | _ => cases hc
  · cases c with
    | arm | disarm | mark | release | rollback | discard | format | peek => exact exec_of_restarting h hh hp rfl rfl
    | _ => cases hc

end Sys2Proof.Machine
end

section
/-!
PROOFS. The STATUS response, field by field at its bytes (R174, Table 11-7).
-/
namespace Sys2Proof.Machine

/-- A byte of the STATUS response (Table 11-7). -/
def statusByte (s : State) (n : Nat) : Byte := (statusBytes s).getD n 0

/-- The STATUS response is its 26 bytes. -/
theorem map_statusByte (s : State) : (List.range 26).map (statusByte s) = statusBytes s := rfl

/-- A two-byte field read back from its bytes (R182). -/
theorem toNat_join16_twoBytes (n : Nat) :
    (join16 ((BitVec.ofNat 16 n).extractLsb' 8 8) ((BitVec.ofNat 16 n).extractLsb' 0 8)).toNat = n % 2 ^ 16 := by
  rw [join16_bytes, BitVec.toNat_ofNat]

/-- The four condition bits stand at positions 0 to 3 of their byte, and the upper half is zero. -/
theorem bitsByte_four : ∀ a b c d : Bool,
    (bitsByte [a, b, c, d]).getLsbD 0 = a ∧ (bitsByte [a, b, c, d]).getLsbD 1 = b ∧
    (bitsByte [a, b, c, d]).getLsbD 2 = c ∧ (bitsByte [a, b, c, d]).getLsbD 3 = d ∧
    (bitsByte [a, b, c, d]).extractLsb' 4 4 = 0 := by
  decide

theorem EngineState.code_lt (e : EngineState) : e.code < 2 ^ 8 := by cases e <;> decide

theorem showsLapsed_iff (e : Engine) : e.showsLapsed = true ↔ e.state = .armed ∧ e.journal.lapsed = true := by
  simp [Engine.showsLapsed]

theorem retained_iff (e : Engine) : e.retained = true ↔ e.state = .disarmed ∧ e.journal.fill ≠ 0 := by
  simp [Engine.retained]

/-- The slots of any geometry fit a two-byte field (R3). -/
theorem Engine.slots_lt (e : Engine) : e.slots < 2 ^ 16 := by
  have hsize : ∀ k : Fin 8, slotCount k < 2 ^ 16 := by decide
  unfold Engine.slots
  cases e.geometry with
  | none => decide
  | some k => exact hsize k

/-- Settles O11: the response's bytes, each field read back from its own. -/
theorem statusShowsTheSnapshot : Obligations.StatusShowsTheSnapshot := by
  intro s h
  obtain ⟨hlapsed, hretained, hlevel, hpfail, hupper⟩ :=
    bitsByte_four s.engine.showsLapsed s.engine.retained s.sources.level s.control.pfail
  refine ⟨statusByte s, ?_, ?_, ?_, ?_, hlevel, hpfail, hupper, toNat_join16_twoBytes _, ?_, BitVec.toNat_ofNat _ _,
    join32_bytes _, join32_bytes _, toNat_join16_twoBytes _, rfl, join32_bytes _, join32_bytes _⟩
  · rw [map_statusByte]
    exact exec_of_judgement (judge := judgeStatus) h rfl rfl rfl rfl
  · exact (BitVec.toNat_ofNat _ _).trans (Nat.mod_eq_of_lt s.engine.state.code_lt)
  · rw [← showsLapsed_iff, ← hlapsed]
    rfl
  · rw [← retained_iff, ← hretained]
    rfl
  · exact (toNat_join16_twoBytes _).trans (Nat.mod_eq_of_lt s.engine.slots_lt)

end Sys2Proof.Machine
end

section
/-!
PROOFS. The configuration items: what GET returns, what SET gives each item, and what both refuse (R43, R66, R81, R83, R175,
R176, R184; Table 10-5).
-/
namespace Sys2Proof.Machine

/-! ## GET (R175) -/

theorem exec_get_item {item : Byte} {v : Word} {s : State} (h : s.serving) (hv : itemValue item s = some v) :
    exec (.get item) s = .next (s.answered .ok (bytes32 v)) := by
  have hj : judgeGet item s = (answerData (bytes32 v), s) := by rw [judgeGet, hv]
  exact exec_of_judgement h rfl rfl hj rfl

theorem exec_get_refused {item : Byte} {s : State} (h : s.serving) (hv : itemValue item s = none) :
    exec (.get item) s = .next (s.answered .badArg []) := by
  have hj : judgeGet item s = refuse .badArg s := by rw [judgeGet, hv]
  exact exec_of_judgement h rfl rfl hj rfl

/-- A number outside the table names no item to read (Table 10-5). -/
theorem itemValue_beyond {item : Byte} (h : item.toNat = 0 ∨ 10 < item.toNat) (s : State) : itemValue item s = none := by
  rcases h with h | h
  · rw [itemValue, h]
    rfl
  · obtain ⟨n, hn⟩ := Nat.exists_eq_add_of_le' h
    rw [itemValue, hn]
    rfl

/-! ## The value each item takes (Table 10-5, R184) -/

theorem decodeFullPolicy_code (p : FullPolicy) : decodeFullPolicy p.code = some p := by cases p <;> rfl

theorem decodeTimerMode_code (m : TimerMode) : decodeTimerMode m.code = some m := by cases m <;> rfl

theorem decodeLineEdge_code (e : LineEdge) : decodeLineEdge e.code = some e := by cases e <;> rfl

/-- A code above 3 names no full policy. -/
theorem decodeFullPolicy_beyond : ∀ {n : Nat}, 3 < n → decodeFullPolicy n = none
  | _ + 4, _ => rfl

/-- A code above 2 names no mode. -/
theorem decodeMode_beyond : ∀ {n : Nat}, 2 < n → decodeMode n = none
  | _ + 3, _ => rfl

/-- A code above 2 names no timer mode. -/
theorem decodeTimerMode_beyond : ∀ {n : Nat}, 2 < n → decodeTimerMode n = none
  | _ + 3, _ => rfl

/-- A code above 3 names no line edge selection. -/
theorem decodeLineEdge_beyond : ∀ {n : Nat}, 3 < n → decodeLineEdge n = none
  | _ + 4, _ => rfl

/-- A code above 3 names no line filter. -/
theorem decodeLineFilter_beyond : ∀ {n : Nat}, 3 < n → decodeLineFilter n = none
  | _ + 4, _ => rfl

theorem inRange_within {lo hi : Nat} {v : Word} (hlo : lo ≤ v.toNat) (hhi : v.toNat ≤ hi) : inRange lo hi v = some v.toNat :=
  if_pos ⟨hlo, hhi⟩

theorem inRange_beyond {lo hi : Nat} {v : Word} (h : v.toNat < lo ∨ hi < v.toNat) : inRange lo hi v = none :=
  if_neg (by omega)

/-! ## What a SET makes of each item (R176) -/

theorem itemSet_fullPolicy (v : Word) (s : State) : itemSet 1 v s = (decodeFullPolicy v.toNat).map (setPolicy · s) := rfl

theorem itemSet_watermark (v : Word) (s : State) : itemSet 2 v s = (inRange 0 7 v).map (setWatermark · s) := rfl

theorem itemSet_retainedLimit (v : Word) (s : State) : itemSet 3 v s = (inRange 1 16 v).map (setRetainedLimit · s) := rfl

theorem itemSet_defaultMode (v : Word) (s : State) : itemSet 4 v s = (decodeMode v.toNat).map (setDefaultMode · s) := rfl

theorem itemSet_holdLimit (v : Word) (s : State) : itemSet 5 v s = (inRange 0 65535 v).map (setHoldLimit · s) := rfl

theorem itemSet_timerMode (v : Word) (s : State) : itemSet 6 v s = (decodeTimerMode v.toNat).map (setTimerMode · s) := rfl

theorem itemSet_timerPeriod (v : Word) (s : State) : itemSet 7 v s = (inRange 1 65535 v).map (setTimerPeriod · s) := rfl

theorem itemSet_lineEdge (v : Word) (s : State) : itemSet 8 v s = (decodeLineEdge v.toNat).map (setLineEdge · s) := rfl

theorem itemSet_lineFilter (v : Word) (s : State) : itemSet 9 v s = (decodeLineFilter v.toNat).map (setLineFilter · s) := rfl

theorem itemSet_enables (v : Word) (s : State) : itemSet 10 v s = (decodeFlagSet v).map (setEnables · s) := rfl

/-- A number outside the table names no item to set (Table 10-5). -/
theorem itemSet_beyond {item : Byte} (h : item.toNat = 0 ∨ 10 < item.toNat) (v : Word) (s : State) :
    itemSet item v s = none := by
  rcases h with h | h
  · rw [itemSet, h]
    rfl
  · obtain ⟨n, hn⟩ := Nat.exists_eq_add_of_le' h
    rw [itemSet, hn]
    rfl

/-- A SET that names no item, or a value outside its item's range, is refused (R176, R184). -/
theorem exec_set_refused {item : Byte} {v : Word} {s : State} (h : s.serving) (hrun : s.control.halted = false)
    (hv : itemSet item v s = none) : exec (.set item v) s = .next (s.answered .badArg []) := by
  have hj : unlessHalted (judgeSet item v) s = refuse .badArg s := by
    rw [unlessHalted_of_running hrun, judgeSet, hv]
  exact exec_of_judgement h rfl rfl hj rfl

/-- A SET whose value its item reads as x leaves what the item makes of x (R176). -/
theorem exec_set_decoded {α : Type} {item : Byte} {v : Word} {s t : State} (h : s.serving) (hrun : s.control.halted = false)
    {decoded : Option α} {make : α → State} {x : α} (hitem : itemSet item v s = decoded.map make) (hx : decoded = some x)
    (ht : make x = t) (hl : t.link = s.link) : exec (.set item v) s = .next (t.answered .ok []) :=
  exec_set_item h hrun (by rw [hitem, hx, Option.map_some, ht]) hl

/-- A SET whose value its item reads as nothing is refused (R176, R184). -/
theorem exec_set_undecoded {α : Type} {item : Byte} {v : Word} {s : State} (h : s.serving) (hrun : s.control.halted = false)
    {decoded : Option α} {make : α → State} (hitem : itemSet item v s = decoded.map make) (hx : decoded = none) :
    exec (.set item v) s = .next (s.answered .badArg []) :=
  exec_set_refused h hrun (by rw [hitem, hx, Option.map_none])

/-- Settles O12: GET by its item, and a refused SET by the item whose range the value lies outside. -/
theorem getReturnsAndSetRefuses : Obligations.GetReturnsAndSetRefuses := by
  intro s h
  refine ⟨exec_get_item h rfl, exec_get_item h rfl, exec_get_item h rfl, exec_get_item h rfl, exec_get_item h rfl,
    exec_get_item h rfl, exec_get_item h rfl, exec_get_item h rfl, exec_get_item h rfl, exec_get_item h rfl,
    fun item hi => exec_get_refused h (itemValue_beyond hi s), fun item v hrun hbad => ?_⟩
  rcases hbad with h0 | h10 | ⟨rfl, hv⟩ | ⟨rfl, hv⟩ | ⟨rfl, hv⟩ | ⟨rfl, hv⟩ | ⟨rfl, hv⟩ | ⟨rfl, hv⟩ | ⟨rfl, hv⟩ | ⟨rfl, hv⟩ |
    ⟨rfl, hv⟩ | ⟨rfl, hv⟩
  · exact exec_set_refused h hrun (itemSet_beyond (.inl h0) v s)
  · exact exec_set_refused h hrun (itemSet_beyond (.inr h10) v s)
  · exact exec_set_undecoded h hrun (itemSet_fullPolicy v s) (decodeFullPolicy_beyond hv)
  · exact exec_set_undecoded h hrun (itemSet_watermark v s) (inRange_beyond (.inr hv))
  · exact exec_set_undecoded h hrun (itemSet_retainedLimit v s) (inRange_beyond (by omega))
  · exact exec_set_undecoded h hrun (itemSet_defaultMode v s) (decodeMode_beyond hv)
  · exact exec_set_undecoded h hrun (itemSet_holdLimit v s) (inRange_beyond (.inr hv))
  · exact exec_set_undecoded h hrun (itemSet_timerMode v s) (decodeTimerMode_beyond hv)
  · exact exec_set_undecoded h hrun (itemSet_timerPeriod v s) (inRange_beyond (by omega))
  · exact exec_set_undecoded h hrun (itemSet_lineEdge v s) (decodeLineEdge_beyond hv)
  · exact exec_set_undecoded h hrun (itemSet_lineFilter v s) (decodeLineFilter_beyond hv)
  · exact exec_set_undecoded h hrun (itemSet_enables v s) (decodeFlagSet_beyond hv)

/-! ## The timer, the hold limit and the line filter (R66, R81, R83) -/

/-- PERIODIC starts the timer while the arming stands (R83). -/
theorem timed_eq_armingStands (s : State) : s.engine.timed = s.armingStands := by
  unfold Engine.timed State.armingStands
  cases s.engine.state <;> simp

theorem timerAfter_eq (m : TimerMode) (s : State) : timerAfter m s =
    if m = .periodic ∧ s.armingStands = true then some s.settings.timerPeriod else none := by
  rw [← timed_eq_armingStands]
  cases m <;> simp [timerAfter]

/-- A period given to a running timer starts it again, and a stopped one stays so (R83). -/
theorem timer_restarted (timer : Option Nat) (n : Nat) :
    (timer.map fun _ => n) = if timer = none then none else some n := by
  cases timer <;> simp

/-- A hold limit that no word has run to is set, and nothing else comes about (R66). -/
theorem setHoldLimit_not_due {n : Nat} {s : State}
    (h : ∀ c m, s.host.current = some c → c.waits → c.hold = some m → n = 0 ∨ m < n) :
    setHoldLimit n s = s.withSettings { s.settings with holdLimit := n } := by
  refine expireIfReached_not_due ?_
  rintro ⟨c, m, hc, hw, hm, hz, hle⟩
  rcases h c m hc hw hm with h0 | hlt
  · exact hz h0
  · exact absurd hlt (Nat.not_lt.2 hle)

/-- A line filter that no candidate has held its level for is set, and nothing else comes about (R81). -/
theorem setLineFilter_not_due {f : LineFilter} {s : State} (h : ∀ n, s.sources.candidate = some n → n < f.micros) :
    setLineFilter f s = s.withSettings { s.settings with lineFilter := f } := by
  refine changeIfDue_not_due ?_
  rintro ⟨n, hn, hle⟩
  exact absurd (h n hn) (Nat.not_lt.2 hle)

/-- Settles O13: each item takes its value, and the state is what the item makes of it. -/
theorem setGivesTheItemItsValue : Obligations.SetGivesTheItemItsValue := by
  intro s h hrun
  refine ⟨fun v p hv => ?_, fun v hhi => ?_, fun v hlo hhi => ?_, fun v m hv => ?_, fun v hhi hdue => ?_, fun v m hv => ?_,
    fun v hlo hhi => ?_, fun v e hv => ?_, fun v f hv hdue => ?_, fun v hv => ?_⟩
  · exact exec_set_decoded h hrun (itemSet_fullPolicy v s) (hv ▸ decodeFullPolicy_code p) rfl rfl
  · exact exec_set_decoded h hrun (itemSet_watermark v s) (inRange_within (Nat.zero_le _) hhi) rfl rfl
  · exact exec_set_decoded h hrun (itemSet_retainedLimit v s) (inRange_within hlo hhi) rfl rfl
  · exact exec_set_decoded h hrun (itemSet_defaultMode v s) (decodeMode_eq_some_iff.2 hv) rfl rfl
  · exact exec_set_decoded h hrun (itemSet_holdLimit v s) (inRange_within (Nat.zero_le _) hhi) (setHoldLimit_not_due hdue) rfl
  · rw [← timerAfter_eq]
    exact exec_set_decoded h hrun (itemSet_timerMode v s) (hv ▸ decodeTimerMode_code m) rfl rfl
  · rw [← timer_restarted]
    exact exec_set_decoded h hrun (itemSet_timerPeriod v s) (inRange_within hlo hhi) rfl rfl
  · exact exec_set_decoded h hrun (itemSet_lineEdge v s) (hv ▸ decodeLineEdge_code e) rfl rfl
  · exact exec_set_decoded h hrun (itemSet_lineFilter v s) (hv ▸ decodeLineFilter_code f) (setLineFilter_not_due hdue) rfl
  · exact exec_set_decoded h hrun (itemSet_enables v s) (decodeFlagSet_within hv) rfl rfl

end Sys2Proof.Machine
end

section
/-!
PROOFS. RESTART: refused, without effect, or a restart that becomes pending and drops the word held or waiting (R50, R69, R71,
R142, R181).
-/
namespace Sys2Proof.Machine

/-- A restart pending and HALTED clear, no word answered yet (R181). -/
def State.restarting (s : State) : State :=
  s.withControl { s.control with halted := false, restartPending := true }

theorem judgeRestart_refused {s : State} (hp : s.control.pfail = true) : judgeRestart s = refuse .wrongState s := if_pos hp

theorem judgeRestart_again {s : State} (hp : s.control.pfail = false) (hr : s.control.restartPending = true) :
    judgeRestart s = (answerOnly .ok, s) := by
  simp [judgeRestart, hp, hr]

theorem judgeRestart_taken {s : State} (hp : s.control.pfail = false) (hr : s.control.restartPending = false) :
    judgeRestart s = (answerOnly .ok, dropWord .restart s.restarting) := by
  simp [judgeRestart, hp, hr, takeRestart, State.restarting]

/-- Settles O25: the refusal, the restart sent again, and the one taken, with a word to answer or none. -/
theorem restartBecomesPending : Obligations.RestartBecomesPending := by
  intro s h
  refine ⟨fun hp => ?_, fun hp hr => ?_, fun hp hr hgranted => ?_, fun c hp hr hc hw => ?_⟩
  · exact exec_of_judgement h rfl rfl (judgeRestart_refused hp) rfl
  · exact exec_of_judgement h rfl rfl (judgeRestart_again hp hr) rfl
  · have hj := judgeRestart_taken hp hr
    rw [dropWord_granted .restart (s := s.restarting) hgranted] at hj
    exact exec_of_judgement h rfl rfl hj rfl
  · have hcur : s.restarting.host.current = some c := hc
    have hj := judgeRestart_taken hp hr
    rw [dropWord_waits .restart hcur hw] at hj
    obtain ⟨rest, hanswers⟩ := answerWord_answers (.fault .restart) c s.restarting hcur
    rw [fault_answer] at hanswers
    obtain ⟨hsettings, hport, hlink, hcontrol, -⟩ := answerWord_frame (.fault .restart) s.restarting
    obtain ⟨hengine, -, -⟩ := answerWord_fault_quiet .restart s.restarting
    refine ⟨_, rest, exec_of_judgement h rfl rfl hj hlink, ?_, hcontrol, hanswers,
      answerWord_faultAnswered .restart c s.restarting hcur, congrArg Engine.journal hengine, congrArg Engine.state hengine,
      hport, hsettings⟩
    exact congrArg (fun l : Link => { l with phase := .turnaround, response := some ⟨.ok, []⟩ }) hlink

end Sys2Proof.Machine
end

section
/-!
PROOFS. The cold reset, the levels sampled as a reset ends, and the conditions the reset state meets (R29, R60, R72, R92, R111,
R134, R141, R143, R156, R171, R187; Table 10-5).
-/
namespace Sys2Proof.Machine

/-! ## The cold reset -/

theorem exec_coldReset (s : State) : exec .coldReset s = .next (State.cold.withPending s.pending) := rfl

/-- A cold region entry in force maps nothing and counts no hit (R29). -/
theorem coldRegions_active (i : Fin Config.regionCount) : coldRegions.active[i] = ⟨coldRegion, 0, false⟩ :=
  Vector.getElem_replicate ..

/-- A cold staged entry is one that INSTALL leaves alone (R29). -/
theorem coldRegions_staged (i : Fin Config.regionCount) : coldRegions.staged[i] = ⟨coldRegion, none, false⟩ :=
  Vector.getElem_replicate ..

theorem cold_capture (i : Fin Config.captureCount) : State.cold.captures[i] = coldCapture :=
  Vector.getElem_replicate ..

/-- With no flag set ATTN is released (R162, R163). -/
theorem attnLow_of_no_flag {s : State} (h : s.events.flags = 0) : s.attnLow = false := by
  simp [State.attnLow, EventUnit.pendingView, h]

/-- Settles O3: the state is the cold one, whose table entries and slots all stand alike. -/
theorem coldResetLeavesColdValues : Obligations.ColdResetLeavesColdValues := fun s =>
  ⟨State.cold.withPending s.pending, exec_coldReset s, rfl, rfl, rfl, rfl, rfl, rfl, coldRegions_active, coldRegions_staged,
    rfl, rfl, rfl, rfl, rfl, rfl, cold_capture, rfl, attnLow_of_no_flag rfl, rfl, rfl, rfl, rfl, rfl⟩

/-! ## The end of the reset -/

/-- A reset held ends with PFAIL released: the levels are sampled and nothing more (R187). -/
theorem exec_resetEnd_released {s : State} (hr : s.control.resetHeld = true) (straps : BitVec 3) (high selected : Bool) :
    exec (.resetEnd straps false high selected) s = .next (sampleLevels straps high selected s) :=
  congrArg Host.Outcome.next (if_pos hr)

/-- A reset held ends with PFAIL asserted: the assertion is taken on the levels sampled (R141, R187). -/
theorem exec_resetEnd_asserted {s : State} (hr : s.control.resetHeld = true) (straps : BitVec 3) (high selected : Bool) :
    exec (.resetEnd straps true high selected) s = .next (takePfail (sampleLevels straps high selected s)) :=
  congrArg Host.Outcome.next (if_pos hr)

/-- An assertion that finds the host port IDLE answers no word, whether or not the part is HALTED (R141). -/
theorem takePfail_of_idle {s : State} (h : s.host.current = none) : takePfail s = s.powerFailed := by
  cases hh : s.control.halted with
  | true => exact takePfail_of_halted hh
  | false =>
    rw [takePfail_of_running hh]
    exact dropWord_granted .powerFail fun c hc => nomatch h.symm.trans hc

/-- Settles O4: PFAIL found asserted is taken on the levels sampled; found released it leaves the control as it stood. -/
theorem resetEndSamplesTheLevels : Obligations.ResetEndSamplesTheLevels := by
  intro straps pfail high selected s hr hh hp hidle
  cases pfail with
  | true =>
    rw [exec_resetEnd_asserted hr, takePfail_of_idle (s := sampleLevels straps high selected s) hidle]
    rfl
  | false =>
    have hcontrol : { s.control with resetHeld := false, straps := straps } =
        { s.control with resetHeld := false, straps := straps, pfail := false, halted := false } := by
      simp [hp, hh]
    rw [exec_resetEnd_released hr, sampleLevels, hcontrol]
    rfl

/-! ## The state right after reset -/

/-- The engine stands in RECOVERING with an empty touched set (R60, R134). -/
theorem reset_touchedSetOk : TouchedSetOk State.reset :=
  touchedSetOk_of_not_armed rfl (by simp [State.reset, State.cold, coldEngine])

/-- The host port is IDLE, nothing is presented, and no tenancy is in progress (R48, R111). -/
theorem reset_hostWordOk : HostWordOk State.reset :=
  Ungranted.hostWordOk ⟨⟨by rintro c ⟨⟩, fun _ => rfl⟩, by rintro x ⟨⟩⟩

/-- The cold values lie in their items' ranges (Table 10-5). -/
theorem reset_settingsOk : SettingsOk State.reset := by
  simp [SettingsOk, State.reset, State.cold, coldSettings]

/-- Every slot is OFF and empty (R143). -/
theorem reset_capturesOk : CapturesOk State.reset := fun i => by
  have hslot : State.reset.captures[i] = coldCapture := cold_capture i
  rw [hslot]
  exact coldCapture_ok

/-- Settles O58: the base case of the conditions that every step keeps. -/
theorem resetMeetsTheConditions : Obligations.ResetMeetsTheConditions :=
  ⟨reset_touchedSetOk, reset_hostWordOk, reset_settingsOk, reset_capturesOk⟩

end Sys2Proof.Machine
end

section
/-!
SUPPORT. The host port, the engine's tenancies and memory's answers leave the commands still waiting alone: the queue is the
model's own, and none of the part's rules reads or writes it (log entries 4 and 20).
-/
namespace Sys2Proof.Machine

/-! ## The host port -/

@[simp] theorem dropWord_pending (x : FaultCause) (s : State) : (dropWord x s).pending = s.pending := by
  unfold dropWord
  (repeat' split) <;> simp

@[simp] theorem presentRequest_pending (r : HostRequest) (s : State) : (presentRequest r s).pending = s.pending := by
  unfold presentRequest takeIfIdle
  split <;> simp

@[simp] theorem forwardWrite_pending (c : HostAccess) (s : State) : (forwardWrite c s).pending = s.pending := rfl

@[simp] theorem readOldValue_pending (c : HostAccess) (s : State) : (readOldValue c s).pending = s.pending := rfl

@[simp] theorem releaseOrLose_pending (s : State) : (releaseOrLose s).pending = s.pending := by
  unfold releaseOrLose
  split <;> simp

@[simp] theorem applyPolicy_pending (s : State) : (applyPolicy s).pending = s.pending := by
  unfold applyPolicy
  split <;> simp

@[simp] theorem journaledWrite_pending (c : HostAccess) (s : State) : (journaledWrite c s).pending = s.pending := by
  unfold journaledWrite
  (repeat' split) <;> simp

/-- A granted JOURNAL write, in every engine state (R57, R58). -/
@[simp] theorem treatJournalWrite_pending (c : HostAccess) (s : State) : (treatJournalWrite c s).pending = s.pending := by
  unfold treatJournalWrite
  (repeat' split) <;> simp

/-- A granted word, by its kind and its mode (Table 3-1). -/
@[simp] theorem treatWord_pending (m : Mode) (c : HostAccess) (s : State) : (treatWord m c s).pending = s.pending := by
  unfold treatWord
  split
  · unfold treatRead
    split
    · simp
    · rfl
  · cases m <;> simp [treatWrite]

@[simp] theorem grantWord_pending (s : State) : (grantWord s).pending = s.pending := by
  unfold grantWord
  split <;> simp

@[simp] theorem roomAgain_pending (c : HostAccess) (s : State) : (roomAgain c s).pending = s.pending := by
  unfold roomAgain
  (repeat' split) <;> simp

/-- The current word's work, or the tenancy given back. -/
theorem withWord_pending {f : HostAccess → State → State} {s : State} (hf : ∀ c, (f c s).pending = s.pending) :
    (withWord f s).pending = s.pending := by
  unfold withWord
  split
  · exact hf _
  · simp

/-! ## Marks and arming -/

@[simp] theorem markAppendStep_pending (x : SourceSet) (k : Nat) (s : State) :
    (markAppendStep x k s).pending = s.pending := rfl

@[simp] theorem markBegin_pending (x : SourceSet) (k : Nat) (s : State) : (markBegin x k s).pending = s.pending := by
  unfold markBegin
  split <;> simp

@[simp] theorem markFinish_pending (x : SourceSet) (s : State) : (markFinish x s).pending = s.pending := by
  simp [markFinish, emptyTouched]

@[simp] theorem markLimitStep_pending (x : SourceSet) (k : Nat) (s : State) : (markLimitStep x k s).pending = s.pending := by
  unfold markLimitStep
  split <;> simp

@[simp] theorem markAfterAppend_pending (x : SourceSet) (k : Nat) (s : State) :
    (markAfterAppend x k s).pending = s.pending := by
  unfold markAfterAppend
  split <;> simp

@[simp] theorem armAppendStep_pending (a : RestartAction) (k : Nat) (s : State) :
    (armAppendStep a k s).pending = s.pending := rfl

@[simp] theorem armBegin_pending (a : RestartAction) (k : Nat) (s : State) : (armBegin a k s).pending = s.pending := by
  unfold armBegin
  split <;> simp

@[simp] theorem armRelease_pending (n : Nat) (s : State) : (armRelease n s).pending = s.pending := by
  unfold armRelease
  split <;> simp

@[simp] theorem armTimer_pending (s : State) : (armTimer s).pending = s.pending := by
  unfold armTimer
  split <;> simp

/-! ## Rollback -/

@[simp] theorem rollbackAnchorDone_pending (s : State) : (rollbackAnchorDone s).pending = s.pending := by
  unfold rollbackAnchorDone
  split <;> simp

@[simp] theorem rollbackFails_pending (s : State) : (rollbackFails s).pending = s.pending := by
  unfold rollbackFails
  split <;> simp

@[simp] theorem restoreComplete_pending (link : Word) (s : State) : (restoreComplete link s).pending = s.pending := by
  unfold restoreComplete
  split <;> simp

@[simp] theorem restoreAction_pending (e : Entry) (s : State) : (restoreAction e s).pending = s.pending := by
  unfold restoreAction
  split <;> simp

@[simp] theorem restoreReadDone_pending (ws : List Word) (s : State) : (restoreReadDone ws s).pending = s.pending := by
  unfold restoreReadDone
  (repeat' split) <;> simp

@[simp] theorem settleAnchorStep_pending (r : RollbackRecord) (s : State) : (settleAnchorStep r s).pending = s.pending := rfl

@[simp] theorem settleVoidDone_pending (s : State) : (settleVoidDone s).pending = s.pending := by
  unfold settleVoidDone
  split <;> simp

@[simp] theorem wakeUnlessRecovery_pending (origin : RollbackOrigin) (s : State) :
    (wakeUnlessRecovery origin s).pending = s.pending := by
  cases origin <;> simp [wakeUnlessRecovery]

@[simp] theorem endRollback_pending (origin : RollbackOrigin) (s : State) : (endRollback origin s).pending = s.pending := by
  cases origin <;> simp [endRollback]

@[simp] theorem rollbackBroken_pending (s : State) : (rollbackBroken s).pending = s.pending := by
  unfold rollbackBroken
  split <;> simp

@[simp] theorem settleAnchorDone_pending (s : State) : (settleAnchorDone s).pending = s.pending := by
  unfold settleAnchorDone
  split <;> simp

/-! ## Recovery -/

@[simp] theorem recoveryBroken_pending (s : State) : (recoveryBroken s).pending = s.pending := by
  simp [recoveryBroken]

@[simp] theorem recoveryDisarmed_pending (s : State) : (recoveryDisarmed s).pending = s.pending := by
  simp [recoveryDisarmed]

@[simp] theorem beginRecoveryRollback_pending (p : RollbackPhase) (m : MarkElement) (s : State) :
    (beginRecoveryRollback p m s).pending = s.pending := rfl

@[simp] theorem resumeRolling_pending (f : AnchorCopy) (s : State) : (resumeRolling f s).pending = s.pending := by
  unfold resumeRolling
  split <;> simp

@[simp] theorem revertToNewest_pending (s : State) : (revertToNewest s).pending = s.pending := by
  unfold revertToNewest
  split <;> simp

/-- What the current anchor leads to after the scan (R110, R139). -/
@[simp] theorem recoveryOutcome_pending (f : AnchorCopy) (s : State) : (recoveryOutcome f s).pending = s.pending := by
  unfold recoveryOutcome
  split <;> simp

@[simp] theorem scanComplete_pending (f : AnchorCopy) (next : Word) (s : State) :
    (scanComplete f next s).pending = s.pending := by
  simp [scanComplete]

@[simp] theorem scanAccept_pending (f : AnchorCopy) (slot : Nat) (e : Entry) (s : State) :
    (scanAccept f slot e s).pending = s.pending := by
  unfold scanAccept
  split <;> simp

@[simp] theorem scanHead_pending (f : AnchorCopy) (slot : Nat) (ws : List Word) (s : State) :
    (scanHead f slot ws s).pending = s.pending := by
  unfold scanHead
  (repeat' split) <;> simp

@[simp] theorem scanNext_pending (f : AnchorCopy) (slot : Nat) (ws : List Word) (s : State) :
    (scanNext f slot ws s).pending = s.pending := by
  unfold scanNext
  (repeat' split) <;> simp

@[simp] theorem scanDone_pending (f : AnchorCopy) (slot : Nat) (ws : List Word) (s : State) :
    (scanDone f slot ws s).pending = s.pending := by
  unfold scanDone
  split <;> simp

@[simp] theorem recoveryDecision_pending (f : AnchorCopy) (s : State) : (recoveryDecision f s).pending = s.pending := by
  unfold recoveryDecision
  split <;> simp

/-- Both copies read: the choice and what it leads to (R135, R136). -/
@[simp] theorem copyBRead_pending (a b : CopyReading) (s : State) : (copyBRead a b s).pending = s.pending := by
  unfold copyBRead anchorsRead
  split <;> simp [adoptAnchor]

/-! ## Memory's answers -/

@[simp] theorem formatFailed_pending (s : State) : (formatFailed s).pending = s.pending := by
  simp [formatFailed]

@[simp] theorem finishPeek_pending (r : PeekResult) (s : State) : (finishPeek r s).pending = s.pending := by
  simp [finishPeek]

/-- A step whose accesses were all answered OK. -/
@[simp] theorem completeWork_pending (w : Work) (ws : List Word) (s : State) :
    (completeWork w ws s).pending = s.pending := by
  cases w with
  | hostRead | hostWrite => simp [completeWork, hostReadDone, hostWriteDone]
  | hostFirstWrite => exact (withWord_pending fun c => forwardWrite_pending c _).trans (by simp)
  | hostLose => exact (withWord_pending fun c => forwardWrite_pending c _).trans (by simp [lapse])
  | hostRelease => exact (withWord_pending fun c => roomAgain_pending c _).trans (by simp)
  | hostOldValue => exact withWord_pending fun c => by simp [writeUndo]
  | hostUndo => exact withWord_pending fun c => by simp [undoAppended, undoAdvance]
  | markRoom => simp [completeWork, markRoomDone]
  | markAppend => simp [completeWork, markAppendDone]
  | markLapseEnd => simp [completeWork, markLapseEndDone, clearLapsed]
  | markLimit => simp [completeWork, markLimitDone]
  | armRoom => simp [completeWork, armRoomDone]
  | armAppend => simp [completeWork, armAppendDone, armAnchorStep]
  | armAnchor => simp [completeWork, armAnchorDone, becomeArmed]
  | disarm => simp [completeWork, disarmDone]
  | release => simp [completeWork, releaseJobDone]
  | discard => simp [completeWork, discardDone]
  | rollbackAnchor => exact rollbackAnchorDone_pending s
  | restoreRead => exact restoreReadDone_pending ws s
  | restoreWrite link => exact restoreComplete_pending link s
  | settleVoid => exact settleVoidDone_pending s
  | settleAnchor => exact settleAnchorDone_pending s
  | brokenAnchor => simp [completeWork, brokenAnchorDone]
  | clearFirst | clearSecond | clearSlot | readCopyA => rfl
  | formatAnchor => simp [completeWork, formatDone]
  | readCopyB a => exact copyBRead_pending a _ s
  | scan anchor slot => exact scanDone_pending anchor slot ws s
  | peek => exact finishPeek_pending _ s

/-- A step failed by an access answered ERROR. -/
@[simp] theorem failWork_pending (w : Work) (s : State) : (failWork w s).pending = s.pending := by
  cases w with
  | hostRead | hostWrite | hostOldValue | hostUndo => simp [failWork, hostAccessFailed]
  | hostFirstWrite | hostRelease | hostLose => simp [failWork, hostAnchorFailed]
  | markRoom | markLapseEnd | markLimit => simp [failWork, markAnchorFailed]
  | markAppend => simp [failWork, markAppendFailed]
  | armRoom | armAnchor => simp [failWork, armAnchorFailed]
  | armAppend => simp [failWork, armAppendFailed]
  | disarm => simp [failWork, disarmFailed]
  | release => simp [failWork, releaseJobFailed]
  | discard => simp [failWork, discardFailed]
  | rollbackAnchor | settleAnchor => simp [failWork, rollbackAnchorFailed]
  | restoreRead | restoreWrite | settleVoid => simp [failWork, rollbackMemoryFailed]
  | brokenAnchor => simp [failWork, brokenAnchorFailed]
  | clearFirst | clearSecond | clearSlot => exact formatFailed_pending s
  | formatAnchor => simp [failWork, formatAnchorFailed]
  | readCopyA => simp [failWork, copyARead]
  | readCopyB => simp [failWork]
  | scan => simp [failWork, scanFailed]
  | peek => simp [failWork, peekFailed]

@[simp] theorem accessAnswered_pending (t : Tenancy) (d : Word) (s : State) :
    (accessAnswered t d s).pending = s.pending := by
  unfold accessAnswered
  split <;> simp

/-! ## Power and the MARK pin -/

@[simp] theorem haltPart_pending (s : State) : (haltPart s).pending = s.pending := by
  unfold haltPart
  split <;> simp

@[simp] theorem takePfail_pending (s : State) : (takePfail s).pending = s.pending := by
  simp [takePfail]

@[simp] theorem holdWaiting_pending (s : State) : (holdWaiting s).pending = s.pending := by
  unfold holdWaiting
  (repeat' split) <;> simp

@[simp] theorem pinTurns_pending (s : State) : (pinTurns s).pending = s.pending := by
  unfold pinTurns
  (repeat' split) <;> simp

end Sys2Proof.Machine
end

section
/-!
SUPPORT. The judgements of the link's commands leave the commands still waiting alone (log entries 4 and 20).
-/
namespace Sys2Proof.Machine

theorem OnlyReads.pending {s : State} {p : Response × State} (h : OnlyReads s p) : p.2.pending = s.pending := by
  cases h <;> rfl

/-! ## The link's own commands -/

/-- Every configuration item (Table 10-5). -/
theorem itemSet_pending {item : Byte} {v : Word} {s t : State} (h : itemSet item v s = some t) : t.pending = s.pending := by
  unfold itemSet at h
  split at h
  case h_11 => cases h
  all_goals obtain ⟨x, -, rfl⟩ := Option.map_eq_some_iff.1 h
  case h_5 => simp [setHoldLimit]
  case h_9 => simp [setLineFilter]
  all_goals rfl

theorem judgeSet_pending (item : Byte) (v : Word) (s : State) : (judgeSet item v s).2.pending = s.pending := by
  unfold judgeSet
  split
  · rename_i t ht
    exact itemSet_pending ht
  · rfl

theorem judgeTableWrite_pending (index : Byte) (mask : BitVec 16) (f : TableFields) (s : State) :
    (judgeTableWrite index mask f s).2.pending = s.pending := by
  unfold judgeTableWrite
  (repeat' split) <;> rfl

theorem judgeInstall_pending (s : State) : (judgeInstall s).2.pending = s.pending := by
  unfold judgeInstall
  split <;> rfl

theorem judgeCaptureSet_pending (slot mode cause filter : Byte) (s : State) :
    (judgeCaptureSet slot mode cause filter s).2.pending = s.pending := by
  unfold judgeCaptureSet
  split <;> rfl

theorem judgeAckEvents_pending (v : Word) (s : State) : (judgeAckEvents v s).2.pending = s.pending := by
  unfold judgeAckEvents acknowledge
  (repeat' split) <;> rfl

theorem judgeRestart_pending (s : State) : (judgeRestart s).2.pending = s.pending := by
  unfold judgeRestart
  split
  · rfl
  · split
    · rfl
    · simp [takeRestart]

/-! ## The engine's commands -/

theorem judgeArm_pending (action : Byte) (s : State) : (judgeArm action s).2.pending = s.pending := by
  unfold judgeArm
  (repeat' split) <;> rfl

theorem judgeDisarm_pending (s : State) : (judgeDisarm s).2.pending = s.pending := by
  unfold judgeDisarm
  (repeat' split) <;> rfl

theorem judgeMark_pending (s : State) : (judgeMark s).2.pending = s.pending := by
  unfold judgeMark
  (repeat' split) <;> rfl

theorem judgeRelease_pending (n : Byte) (s : State) : (judgeRelease n s).2.pending = s.pending := by
  unfold judgeRelease
  (repeat' split) <;> rfl

theorem judgeRollback_pending (depth : Byte) (s : State) : (judgeRollback depth s).2.pending = s.pending := by
  unfold judgeRollback takeRollback
  (repeat' split) <;> rfl

theorem judgeDiscard_pending (s : State) : (judgeDiscard s).2.pending = s.pending := by
  unfold judgeDiscard
  (repeat' split) <;> rfl

theorem judgeFormat_pending (sizeCode : Byte) (s : State) : (judgeFormat sizeCode s).2.pending = s.pending := by
  unfold judgeFormat takeFormat
  (repeat' split) <;> rfl

theorem judgePeek_pending (slot : BitVec 16) (s : State) : (judgePeek slot s).2.pending = s.pending := by
  unfold judgePeek takePeek
  (repeat' split) <;> rfl

end Sys2Proof.Machine
end

section
/-!
PROOFS. A step runs the command at the front of the queue, and every command and happening completes and leaves the commands
still waiting alone (log entries 3, 4 and 20).
-/
namespace Sys2Proof.Machine

/-- Settles O1: the queue holds a command, so the step runs it with the queue's rest. -/
theorem stepTakesTheFrontCommand : Obligations.StepTakesTheFrontCommand := fun _ _ _ => rfl

/-- The outcome is a next state, with the same commands waiting as before. -/
def LeavesQueue (s : State) (o : Host.Outcome State Fault Refusal) : Prop := ∃ t, o = .next t ∧ t.pending = s.pending

theorem LeavesQueue.next {s t : State} (h : t.pending = s.pending) : LeavesQueue s (.next t) := ⟨t, rfl, h⟩

/-- A happening that comes about under a condition, and changes nothing otherwise (log entry 3). -/
theorem LeavesQueue.branch {s t : State} {b : Prop} [Decidable b] (h : t.pending = s.pending) :
    LeavesQueue s (.next (if b then t else s)) := by
  refine .next ?_
  split
  · exact h
  · rfl

/-- A command is taken within a frame, and changes nothing outside one. -/
theorem serve_leavesQueue {c : Instr} {judge : State → Response × State} {s : State}
    (hj : (judge s).2.pending = s.pending) : LeavesQueue s (serve c judge s) := .branch hj

/-- A tenancy begins where the arbiter grants it, and nothing changes where it does not. -/
theorem onGrant_leavesQueue {r : Request} {work : State → State} {s : State} (hw : ∀ u, (work u).pending = u.pending) :
    LeavesQueue s (onGrant r work s) := .branch (hw _)

/-! ## Grants to the engine (R115, R118) -/

theorem execMarkTake_leavesQueue (s : State) : LeavesQueue s (execMarkTake s) :=
  onGrant_leavesQueue fun _ => by split <;> simp

theorem execArming_leavesQueue (s : State) : LeavesQueue s (execArming s) :=
  onGrant_leavesQueue fun _ => by split <;> simp

theorem execDisarming_leavesQueue (s : State) : LeavesQueue s (execDisarming s) :=
  onGrant_leavesQueue fun _ => by (repeat' split) <;> simp

theorem execReleaseJob_leavesQueue (s : State) : LeavesQueue s (execReleaseJob s) :=
  onGrant_leavesQueue fun _ => by (repeat' split) <;> simp

theorem execDiscardTenancy_leavesQueue (s : State) : LeavesQueue s (execDiscardTenancy s) :=
  onGrant_leavesQueue fun _ => by (repeat' split) <;> simp

theorem execRollbackAnchor_leavesQueue (s : State) : LeavesQueue s (execRollbackAnchor s) :=
  onGrant_leavesQueue fun _ => by split <;> simp [fixRange]

theorem execSettle_leavesQueue (s : State) : LeavesQueue s (execSettle s) :=
  onGrant_leavesQueue fun _ => by (repeat' split) <;> simp

theorem execRestoreStep_leavesQueue (s : State) : LeavesQueue s (execRestoreStep s) :=
  onGrant_leavesQueue fun _ => by split <;> rfl

theorem execScanStep_leavesQueue (s : State) : LeavesQueue s (execScanStep s) :=
  onGrant_leavesQueue fun _ => by split <;> rfl

theorem execRecoveryAnchorRead_leavesQueue (s : State) : LeavesQueue s (execRecoveryAnchorRead s) :=
  onGrant_leavesQueue fun _ => by split <;> rfl

theorem execPeekJob_leavesQueue (s : State) : LeavesQueue s (execPeekJob s) :=
  onGrant_leavesQueue fun _ => rfl

theorem execFormatAnchorClear_leavesQueue (s : State) : LeavesQueue s (execFormatAnchorClear s) :=
  onGrant_leavesQueue fun _ => rfl

theorem execFormatSlotClear_leavesQueue (s : State) : LeavesQueue s (execFormatSlotClear s) :=
  onGrant_leavesQueue fun _ => rfl

theorem execFormatFinalAnchor_leavesQueue (s : State) : LeavesQueue s (execFormatFinalAnchor s) :=
  onGrant_leavesQueue fun _ => rfl

/-- A grant to the engine completes, whatever its tenancy finds. -/
theorem exec_grant_leavesQueue {c : Instr} (hc : grantsTenancy c = true) (s : State) : LeavesQueue s (exec c s) := by
  cases c with
  | markTake => exact execMarkTake_leavesQueue s
  | arming => exact execArming_leavesQueue s
  | disarming => exact execDisarming_leavesQueue s
  | releaseJob => exact execReleaseJob_leavesQueue s
  | discardTenancy => exact execDiscardTenancy_leavesQueue s
  | rollbackAnchor => exact execRollbackAnchor_leavesQueue s
  | settle => exact execSettle_leavesQueue s
  | restoreStep => exact execRestoreStep_leavesQueue s
  | scanStep => exact execScanStep_leavesQueue s
  | recoveryAnchorRead => exact execRecoveryAnchorRead_leavesQueue s
  | peekJob => exact execPeekJob_leavesQueue s
  | formatAnchorClear => exact execFormatAnchorClear_leavesQueue s
  | formatSlotClear => exact execFormatSlotClear_leavesQueue s
  | formatFinalAnchor => exact execFormatFinalAnchor_leavesQueue s
  | _ => cases hc

/-! ## Every command and happening -/

/-- Memory's answer to the access in progress, if any is issued (R119). -/
theorem exec_memoryAnswer_leavesQueue (ok : Bool) (d : Word) (s : State) : LeavesQueue s (exec (.memoryAnswer ok d) s) := by
  rw [exec_memoryAnswer]
  refine .next ?_
  (repeat' split) <;> simp

/-- Settles O2: the commands by their judgements, the grants by their work, and the rest of the happenings by what each
changes. -/
theorem everyCommandCompletesAndKeepsTheQueue : Obligations.EveryCommandCompletesAndKeepsTheQueue := by
  intro c s
  change LeavesQueue s (exec c s)
  have hlistens {judge : State → Response × State} : (judge s).2.pending = s.pending →
      (unlessHalted judge s).2.pending = s.pending := unlessHalted_leaves (P := fun t => t.pending = s.pending) rfl
  have hengine {judge : State → Response × State} : (judge s).2.pending = s.pending →
      (engineCommand judge s).2.pending = s.pending := engineCommand_leaves (P := fun t => t.pending = s.pending) rfl
  cases c with
  | markTake | arming | disarming | releaseJob | discardTenancy | peekJob | rollbackAnchor | restoreStep | settle
  | formatAnchorClear | formatSlotClear | formatFinalAnchor | recoveryAnchorRead | scanStep =>
    exact exec_grant_leavesQueue rfl s
  | status => exact serve_leavesQueue rfl
  | get item => exact serve_leavesQueue (judgeGet_onlyReads item s).pending
  | tableRead index table => exact serve_leavesQueue (judgeTableRead_onlyReads index table s).pending
  | peekRead => exact serve_leavesQueue (judgePeekRead_onlyReads s).pending
  | marksRead first count => exact serve_leavesQueue (judgeMarksRead_onlyReads first count s).pending
  | captureRead slot => exact serve_leavesQueue (judgeCaptureRead_onlyReads slot s).pending
  | set item v => exact serve_leavesQueue (hlistens (judgeSet_pending item v s))
  | tableWrite index mask f => exact serve_leavesQueue (hlistens (judgeTableWrite_pending index mask f s))
  | install => exact serve_leavesQueue (hlistens (judgeInstall_pending s))
  | captureSet slot mode cause filter =>
    exact serve_leavesQueue (hlistens (judgeCaptureSet_pending slot mode cause filter s))
  | ackEvents v => exact serve_leavesQueue (judgeAckEvents_pending v s)
  | restart => exact serve_leavesQueue (judgeRestart_pending s)
  | arm action => exact serve_leavesQueue (hengine (judgeArm_pending action s))
  | disarm => exact serve_leavesQueue (hengine (judgeDisarm_pending s))
  | mark => exact serve_leavesQueue (hengine (judgeMark_pending s))
  | release n => exact serve_leavesQueue (hengine (judgeRelease_pending n s))
  | rollback depth => exact serve_leavesQueue (hengine (judgeRollback_pending depth s))
  | discard => exact serve_leavesQueue (hengine (judgeDiscard_pending s))
  | format sizeCode => exact serve_leavesQueue (hengine (judgeFormat_pending sizeCode s))
  | peek slot => exact serve_leavesQueue (hengine (judgePeek_pending slot s))
  | frameUnknown | frameDiscarded | frameBegin | frameEnd | pfailRelease | enterHalted => exact .branch rfl
  | hostAccess kind address words => exact .branch (presentRequest_pending _ s)
  | hostTenancy => exact .branch (grantWord_pending _)
  | memoryAnswer ok d => exact exec_memoryAnswer_leavesQueue ok d s
  | holdExpiry | filteredChange => exact .next (by simp)
  | periodicExpiry | quietExpiry => exact .branch (by simp)
  | markPinChange | timestampTick =>
    refine .next ?_
    split <;> simp
  | pfailAssert => exact .branch (takePfail_pending s)
  | coldReset => exact .next rfl
  | warmRestart => exact .branch (holdWaiting_pending _)
  | resetEnd straps pfail high selected =>
    refine .branch ?_
    split
    · exact takePfail_pending _
    · rfl

end Sys2Proof.Machine
end
